-- ==== Sys2Proof/Word.lean ====
section
/-! DEFINITION. The word types of the IDT79RV4700: the data sizes of 00_scope R14, the 36-bit physical
address (21_mmu_tlb R180), and register numbers (30_encoding R272). Nothing here computes. -/
namespace Sys2Proof

/-- A byte, 8 bits (00_scope R14). -/
abbrev Byte := BitVec 8
/-- A word, 32 bits (00_scope R14): also an instruction word. -/
abbrev Word := BitVec 32
/-- A doubleword, 64 bits (00_scope R14): also a virtual address (21_mmu_tlb R181). -/
abbrev DWord := BitVec 64
/-- A physical address, 36 bits (21_mmu_tlb R180). -/
abbrev PAddr := BitVec 36
/-- A 5-bit register number (30_encoding R272). -/
abbrev Reg := BitVec 5
/-- One 32-byte cache line; the byte at offset `k` is bits `8k+7 .. 8k` whatever the byte order. -/
abbrev LineData := BitVec 256

end Sys2Proof
end

