-- ==== Sys2Proof/Syntax.lean ====
section
/-! DEFINITION. The instructions: one constructor per row of spec/opcode_table.json (30_encoding R292), in the
table's order. Field names are the encoding's, high bits first; `fmt` is bits 25:21 with bit 25 = 1. -/
namespace Sys2Proof

/-- An instruction of the R4700. Each constructor names its mnemonic and the rule that defines it. -/
inductive Instr where
  -- CPU: shifts, jumps, moves, multiply and divide (30_encoding R282)
  /-- SLL (R401) -/
  | sll (rt rd : Reg) (sa : BitVec 5)
  /-- SRL (R402) -/
  | srl (rt rd : Reg) (sa : BitVec 5)
  /-- SRA (R403) -/
  | sra (rt rd : Reg) (sa : BitVec 5)
  /-- SLLV (R404) -/
  | sllv (rs rt rd : Reg)
  /-- SRLV (R405) -/
  | srlv (rs rt rd : Reg)
  /-- SRAV (R406) -/
  | srav (rs rt rd : Reg)
  /-- JR (R444) -/
  | jr (rs : Reg)
  /-- JALR (R445) -/
  | jalr (rs rd : Reg)
  /-- SYSCALL (R480) -/
  | syscall (code : BitVec 20)
  /-- BREAK (R481) -/
  | brk (code : BitVec 20)
  /-- SYNC (R492) -/
  | sync
  /-- MFHI (R430) -/
  | mfhi (rd : Reg)
  /-- MTHI (R432) -/
  | mthi (rs : Reg)
  /-- MFLO (R431) -/
  | mflo (rd : Reg)
  /-- MTLO (R433) -/
  | mtlo (rs : Reg)
  /-- DSLLV (R410) -/
  | dsllv (rs rt rd : Reg)
  /-- DSRLV (R411) -/
  | dsrlv (rs rt rd : Reg)
  /-- DSRAV (R412) -/
  | dsrav (rs rt rd : Reg)
  /-- MULT (R421) -/
  | mult (rs rt : Reg)
  /-- MULTU (R422) -/
  | multu (rs rt : Reg)
  /-- DIV (R423) -/
  | div (rs rt : Reg)
  /-- DIVU (R425) -/
  | divu (rs rt : Reg)
  /-- DMULT (R426) -/
  | dmult (rs rt : Reg)
  /-- DMULTU (R427) -/
  | dmultu (rs rt : Reg)
  /-- DDIV (R428) -/
  | ddiv (rs rt : Reg)
  /-- DDIVU (R429) -/
  | ddivu (rs rt : Reg)
  -- CPU: arithmetic and logic
  /-- ADD (R362) -/
  | add (rs rt rd : Reg)
  /-- ADDU (R363) -/
  | addu (rs rt rd : Reg)
  /-- SUB (R364) -/
  | sub (rs rt rd : Reg)
  /-- SUBU (R365) -/
  | subu (rs rt rd : Reg)
  /-- AND (R374) -/
  | and (rs rt rd : Reg)
  /-- OR (R375) -/
  | or (rs rt rd : Reg)
  /-- XOR (R376) -/
  | xor (rs rt rd : Reg)
  /-- NOR (R377) -/
  | nor (rs rt rd : Reg)
  /-- SLT (R382) -/
  | slt (rs rt rd : Reg)
  /-- SLTU (R383) -/
  | sltu (rs rt rd : Reg)
  /-- DADD (R368) -/
  | dadd (rs rt rd : Reg)
  /-- DADDU (R369) -/
  | daddu (rs rt rd : Reg)
  /-- DSUB (R370) -/
  | dsub (rs rt rd : Reg)
  /-- DSUBU (R371) -/
  | dsubu (rs rt rd : Reg)
  -- CPU: traps
  /-- TGE (R482) -/
  | tge (rs rt : Reg) (code : BitVec 10)
  /-- TGEU (R483) -/
  | tgeu (rs rt : Reg) (code : BitVec 10)
  /-- TLT (R484) -/
  | tlt (rs rt : Reg) (code : BitVec 10)
  /-- TLTU (R485) -/
  | tltu (rs rt : Reg) (code : BitVec 10)
  /-- TEQ (R486) -/
  | teq (rs rt : Reg) (code : BitVec 10)
  /-- TNE (R487) -/
  | tne (rs rt : Reg) (code : BitVec 10)
  -- CPU: doubleword shifts
  /-- DSLL (R407) -/
  | dsll (rt rd : Reg) (sa : BitVec 5)
  /-- DSRL (R408) -/
  | dsrl (rt rd : Reg) (sa : BitVec 5)
  /-- DSRA (R409) -/
  | dsra (rt rd : Reg) (sa : BitVec 5)
  /-- DSLL32 (R413) -/
  | dsll32 (rt rd : Reg) (sa : BitVec 5)
  /-- DSRL32 (R414) -/
  | dsrl32 (rt rd : Reg) (sa : BitVec 5)
  /-- DSRA32 (R415) -/
  | dsra32 (rt rd : Reg) (sa : BitVec 5)
  -- CPU: REGIMM branches and traps (R284)
  /-- BLTZ (R450) -/
  | bltz (rs : Reg) (offset : BitVec 16)
  /-- BGEZ (R451) -/
  | bgez (rs : Reg) (offset : BitVec 16)
  /-- BLTZL (R458) -/
  | bltzl (rs : Reg) (offset : BitVec 16)
  /-- BGEZL (R459) -/
  | bgezl (rs : Reg) (offset : BitVec 16)
  /-- TGEI (R488) -/
  | tgei (rs : Reg) (imm : BitVec 16)
  /-- TGEIU (R489) -/
  | tgeiu (rs : Reg) (imm : BitVec 16)
  /-- TLTI (R490) -/
  | tlti (rs : Reg) (imm : BitVec 16)
  /-- TLTIU (R491) -/
  | tltiu (rs : Reg) (imm : BitVec 16)
  /-- TEQI (R493) -/
  | teqi (rs : Reg) (imm : BitVec 16)
  /-- TNEI (R494) -/
  | tnei (rs : Reg) (imm : BitVec 16)
  /-- BLTZAL (R452) -/
  | bltzal (rs : Reg) (offset : BitVec 16)
  /-- BGEZAL (R453) -/
  | bgezal (rs : Reg) (offset : BitVec 16)
  /-- BLTZALL (R460) -/
  | bltzall (rs : Reg) (offset : BitVec 16)
  /-- BGEZALL (R461) -/
  | bgezall (rs : Reg) (offset : BitVec 16)
  -- CPU: jumps and branches
  /-- J (R442) -/
  | j (target : BitVec 26)
  /-- JAL (R443) -/
  | jal (target : BitVec 26)
  /-- BEQ (R446) -/
  | beq (rs rt : Reg) (offset : BitVec 16)
  /-- BNE (R447) -/
  | bne (rs rt : Reg) (offset : BitVec 16)
  /-- BLEZ (R448) -/
  | blez (rs : Reg) (offset : BitVec 16)
  /-- BGTZ (R449) -/
  | bgtz (rs : Reg) (offset : BitVec 16)
  -- CPU: immediates
  /-- ADDI (R366) -/
  | addi (rs rt : Reg) (imm : BitVec 16)
  /-- ADDIU (R367) -/
  | addiu (rs rt : Reg) (imm : BitVec 16)
  /-- SLTI (R384) -/
  | slti (rs rt : Reg) (imm : BitVec 16)
  /-- SLTIU (R385) -/
  | sltiu (rs rt : Reg) (imm : BitVec 16)
  /-- ANDI (R378) -/
  | andi (rs rt : Reg) (imm : BitVec 16)
  /-- ORI (R379) -/
  | ori (rs rt : Reg) (imm : BitVec 16)
  /-- XORI (R380) -/
  | xori (rs rt : Reg) (imm : BitVec 16)
  /-- LUI (R381) -/
  | lui (rt : Reg) (imm : BitVec 16)
  -- CPU: branch-likely
  /-- BEQL (R454) -/
  | beql (rs rt : Reg) (offset : BitVec 16)
  /-- BNEL (R455) -/
  | bnel (rs rt : Reg) (offset : BitVec 16)
  /-- BLEZL (R456) -/
  | blezl (rs : Reg) (offset : BitVec 16)
  /-- BGTZL (R457) -/
  | bgtzl (rs : Reg) (offset : BitVec 16)
  /-- DADDI (R372) -/
  | daddi (rs rt : Reg) (imm : BitVec 16)
  /-- DADDIU (R373) -/
  | daddiu (rs rt : Reg) (imm : BitVec 16)
  -- CPU: loads and stores
  /-- LDL (R330) -/
  | ldl (base rt : Reg) (offset : BitVec 16)
  /-- LDR (R331) -/
  | ldr (base rt : Reg) (offset : BitVec 16)
  /-- LB (R314) -/
  | lb (base rt : Reg) (offset : BitVec 16)
  /-- LH (R316) -/
  | lh (base rt : Reg) (offset : BitVec 16)
  /-- LWL (R326) -/
  | lwl (base rt : Reg) (offset : BitVec 16)
  /-- LW (R318) -/
  | lw (base rt : Reg) (offset : BitVec 16)
  /-- LBU (R315) -/
  | lbu (base rt : Reg) (offset : BitVec 16)
  /-- LHU (R317) -/
  | lhu (base rt : Reg) (offset : BitVec 16)
  /-- LWR (R327) -/
  | lwr (base rt : Reg) (offset : BitVec 16)
  /-- LWU (R319) -/
  | lwu (base rt : Reg) (offset : BitVec 16)
  /-- SB (R321) -/
  | sb (base rt : Reg) (offset : BitVec 16)
  /-- SH (R322) -/
  | sh (base rt : Reg) (offset : BitVec 16)
  /-- SWL (R328) -/
  | swl (base rt : Reg) (offset : BitVec 16)
  /-- SW (R323) -/
  | sw (base rt : Reg) (offset : BitVec 16)
  /-- SDL (R332) -/
  | sdl (base rt : Reg) (offset : BitVec 16)
  /-- SDR (R333) -/
  | sdr (base rt : Reg) (offset : BitVec 16)
  /-- SWR (R329) -/
  | swr (base rt : Reg) (offset : BitVec 16)
  /-- CACHE (R240) -/
  | cache (base : Reg) (op : BitVec 5) (offset : BitVec 16)
  /-- LL (R336) -/
  | ll (base rt : Reg) (offset : BitVec 16)
  /-- LLD (R338) -/
  | lld (base rt : Reg) (offset : BitVec 16)
  /-- LD (R320) -/
  | ld (base rt : Reg) (offset : BitVec 16)
  /-- SC (R340) -/
  | sc (base rt : Reg) (offset : BitVec 16)
  /-- SCD (R342) -/
  | scd (base rt : Reg) (offset : BitVec 16)
  /-- SD (R324) -/
  | sd (base rt : Reg) (offset : BitVec 16)
  -- coprocessor loads and stores
  /-- LWC1 (R610) -/
  | lwc1 (base ft : Reg) (offset : BitVec 16)
  /-- LDC1 (R612) -/
  | ldc1 (base ft : Reg) (offset : BitVec 16)
  /-- SWC1 (R611) -/
  | swc1 (base ft : Reg) (offset : BitVec 16)
  /-- SDC1 (R613) -/
  | sdc1 (base ft : Reg) (offset : BitVec 16)
  /-- LWC2 (R538) -/
  | lwc2 (base rt : Reg) (offset : BitVec 16)
  /-- LDC2 (R541) -/
  | ldc2 (base rt : Reg) (offset : BitVec 16)
  /-- SWC2 (R539) -/
  | swc2 (base rt : Reg) (offset : BitVec 16)
  /-- SDC2 (R542) -/
  | sdc2 (base rt : Reg) (offset : BitVec 16)
  -- coprocessor 0
  /-- MFC0 (R500) -/
  | mfc0 (rt rd : Reg)
  /-- DMFC0 (R502) -/
  | dmfc0 (rt rd : Reg)
  /-- MTC0 (R501) -/
  | mtc0 (rt rd : Reg)
  /-- DMTC0 (R503) -/
  | dmtc0 (rt rd : Reg)
  /-- CFC0 (R536) -/
  | cfc0 (rt rd : Reg)
  /-- CTC0 (R536) -/
  | ctc0 (rt rd : Reg)
  /-- BC0F (R547) -/
  | bc0f (offset : BitVec 16)
  /-- BC0T (R547) -/
  | bc0t (offset : BitVec 16)
  /-- BC0FL (R547) -/
  | bc0fl (offset : BitVec 16)
  /-- BC0TL (R547) -/
  | bc0tl (offset : BitVec 16)
  /-- TLBR (R509) -/
  | tlbr
  /-- TLBWI (R510) -/
  | tlbwi
  /-- TLBWR (R511) -/
  | tlbwr
  /-- TLBP (R508) -/
  | tlbp
  /-- ERET (R514) -/
  | eret
  /-- WAIT (R516) -/
  | wait
  -- coprocessor 1: moves and branches
  /-- MFC1 (R614) -/
  | mfc1 (rt fs : Reg)
  /-- DMFC1 (R616) -/
  | dmfc1 (rt fs : Reg)
  /-- CFC1 (R618) -/
  | cfc1 (rt fs : Reg)
  /-- MTC1 (R615) -/
  | mtc1 (rt fs : Reg)
  /-- DMTC1 (R617) -/
  | dmtc1 (rt fs : Reg)
  /-- CTC1 (R619) -/
  | ctc1 (rt fs : Reg)
  /-- BC1F (R620) -/
  | bc1f (offset : BitVec 16)
  /-- BC1T (R621) -/
  | bc1t (offset : BitVec 16)
  /-- BC1FL (R622) -/
  | bc1fl (offset : BitVec 16)
  /-- BC1TL (R623) -/
  | bc1tl (offset : BitVec 16)
  -- coprocessor 1: operations (R289)
  /-- ADD.fmt (R640) -/
  | addFmt (fmt : BitVec 5) (ft fs fd : Reg)
  /-- SUB.fmt (R641) -/
  | subFmt (fmt : BitVec 5) (ft fs fd : Reg)
  /-- MUL.fmt (R642) -/
  | mulFmt (fmt : BitVec 5) (ft fs fd : Reg)
  /-- DIV.fmt (R643) -/
  | divFmt (fmt : BitVec 5) (ft fs fd : Reg)
  /-- SQRT.fmt (R644) -/
  | sqrtFmt (fmt : BitVec 5) (fs fd : Reg)
  /-- ABS.fmt (R645) -/
  | absFmt (fmt : BitVec 5) (fs fd : Reg)
  /-- MOV.fmt (R624) -/
  | movFmt (fmt : BitVec 5) (fs fd : Reg)
  /-- NEG.fmt (R646) -/
  | negFmt (fmt : BitVec 5) (fs fd : Reg)
  /-- ROUND.L.fmt (R650) -/
  | roundLFmt (fmt : BitVec 5) (fs fd : Reg)
  /-- TRUNC.L.fmt (R651) -/
  | truncLFmt (fmt : BitVec 5) (fs fd : Reg)
  /-- CEIL.L.fmt (R652) -/
  | ceilLFmt (fmt : BitVec 5) (fs fd : Reg)
  /-- FLOOR.L.fmt (R653) -/
  | floorLFmt (fmt : BitVec 5) (fs fd : Reg)
  /-- ROUND.W.fmt (R654) -/
  | roundWFmt (fmt : BitVec 5) (fs fd : Reg)
  /-- TRUNC.W.fmt (R655) -/
  | truncWFmt (fmt : BitVec 5) (fs fd : Reg)
  /-- CEIL.W.fmt (R656) -/
  | ceilWFmt (fmt : BitVec 5) (fs fd : Reg)
  /-- FLOOR.W.fmt (R657) -/
  | floorWFmt (fmt : BitVec 5) (fs fd : Reg)
  /-- CVT.S.fmt (R660) -/
  | cvtSFmt (fmt : BitVec 5) (fs fd : Reg)
  /-- CVT.D.fmt (R661) -/
  | cvtDFmt (fmt : BitVec 5) (fs fd : Reg)
  /-- CVT.W.fmt (R662) -/
  | cvtWFmt (fmt : BitVec 5) (fs fd : Reg)
  /-- CVT.L.fmt (R663) -/
  | cvtLFmt (fmt : BitVec 5) (fs fd : Reg)
  /-- C.cond.fmt (R670) -/
  | cCondFmt (fmt : BitVec 5) (ft fs : Reg) (cond : BitVec 4)
  -- coprocessor 2
  /-- MFC2 (R532) -/
  | mfc2 (rt rd : Reg)
  /-- DMFC2 (R534) -/
  | dmfc2 (rt rd : Reg)
  /-- CFC2 (R535) -/
  | cfc2 (rt rd : Reg)
  /-- MTC2 (R533) -/
  | mtc2 (rt rd : Reg)
  /-- DMTC2 (R534) -/
  | dmtc2 (rt rd : Reg)
  /-- CTC2 (R537) -/
  | ctc2 (rt rd : Reg)
  /-- BC2F (R543) -/
  | bc2f (offset : BitVec 16)
  /-- BC2T (R544) -/
  | bc2t (offset : BitVec 16)
  /-- BC2FL (R545) -/
  | bc2fl (offset : BitVec 16)
  /-- BC2TL (R546) -/
  | bc2tl (offset : BitVec 16)
  /-- COP2 (R531) -/
  | cop2 (cofun : BitVec 25)
  deriving DecidableEq, Repr

end Sys2Proof
end

