-- ==== Sys2Proof/WellFormed.lean ====
section
/-! DEFINITION. Which terms of `Instr` are instructions: every field has the width of its encoding, so the one
thing left to check is the leading 1 of a floating-point format field (30_encoding R288: bit 25 of the word
is 1 for an operation). -/
namespace Sys2Proof

/-- The format field of a floating-point operation has its leading bit set (30_encoding R288). -/
def fmtOk (fmt : BitVec 5) : Bool := fmt.getLsbD 4

/-- The instruction can be encoded. -/
def Instr.wf : Instr → Bool
  | .sll _ _ _ => true
  | .srl _ _ _ => true
  | .sra _ _ _ => true
  | .sllv _ _ _ => true
  | .srlv _ _ _ => true
  | .srav _ _ _ => true
  | .jr _ => true
  | .jalr _ _ => true
  | .syscall _ => true
  | .brk _ => true
  | .sync => true
  | .mfhi _ => true
  | .mthi _ => true
  | .mflo _ => true
  | .mtlo _ => true
  | .dsllv _ _ _ => true
  | .dsrlv _ _ _ => true
  | .dsrav _ _ _ => true
  | .mult _ _ => true
  | .multu _ _ => true
  | .div _ _ => true
  | .divu _ _ => true
  | .dmult _ _ => true
  | .dmultu _ _ => true
  | .ddiv _ _ => true
  | .ddivu _ _ => true
  | .add _ _ _ => true
  | .addu _ _ _ => true
  | .sub _ _ _ => true
  | .subu _ _ _ => true
  | .and _ _ _ => true
  | .or _ _ _ => true
  | .xor _ _ _ => true
  | .nor _ _ _ => true
  | .slt _ _ _ => true
  | .sltu _ _ _ => true
  | .dadd _ _ _ => true
  | .daddu _ _ _ => true
  | .dsub _ _ _ => true
  | .dsubu _ _ _ => true
  | .tge _ _ _ => true
  | .tgeu _ _ _ => true
  | .tlt _ _ _ => true
  | .tltu _ _ _ => true
  | .teq _ _ _ => true
  | .tne _ _ _ => true
  | .dsll _ _ _ => true
  | .dsrl _ _ _ => true
  | .dsra _ _ _ => true
  | .dsll32 _ _ _ => true
  | .dsrl32 _ _ _ => true
  | .dsra32 _ _ _ => true
  | .bltz _ _ => true
  | .bgez _ _ => true
  | .bltzl _ _ => true
  | .bgezl _ _ => true
  | .tgei _ _ => true
  | .tgeiu _ _ => true
  | .tlti _ _ => true
  | .tltiu _ _ => true
  | .teqi _ _ => true
  | .tnei _ _ => true
  | .bltzal _ _ => true
  | .bgezal _ _ => true
  | .bltzall _ _ => true
  | .bgezall _ _ => true
  | .j _ => true
  | .jal _ => true
  | .beq _ _ _ => true
  | .bne _ _ _ => true
  | .blez _ _ => true
  | .bgtz _ _ => true
  | .addi _ _ _ => true
  | .addiu _ _ _ => true
  | .slti _ _ _ => true
  | .sltiu _ _ _ => true
  | .andi _ _ _ => true
  | .ori _ _ _ => true
  | .xori _ _ _ => true
  | .lui _ _ => true
  | .beql _ _ _ => true
  | .bnel _ _ _ => true
  | .blezl _ _ => true
  | .bgtzl _ _ => true
  | .daddi _ _ _ => true
  | .daddiu _ _ _ => true
  | .ldl _ _ _ => true
  | .ldr _ _ _ => true
  | .lb _ _ _ => true
  | .lh _ _ _ => true
  | .lwl _ _ _ => true
  | .lw _ _ _ => true
  | .lbu _ _ _ => true
  | .lhu _ _ _ => true
  | .lwr _ _ _ => true
  | .lwu _ _ _ => true
  | .sb _ _ _ => true
  | .sh _ _ _ => true
  | .swl _ _ _ => true
  | .sw _ _ _ => true
  | .sdl _ _ _ => true
  | .sdr _ _ _ => true
  | .swr _ _ _ => true
  | .cache _ _ _ => true
  | .ll _ _ _ => true
  | .lld _ _ _ => true
  | .ld _ _ _ => true
  | .sc _ _ _ => true
  | .scd _ _ _ => true
  | .sd _ _ _ => true
  | .lwc1 _ _ _ => true
  | .ldc1 _ _ _ => true
  | .swc1 _ _ _ => true
  | .sdc1 _ _ _ => true
  | .lwc2 _ _ _ => true
  | .ldc2 _ _ _ => true
  | .swc2 _ _ _ => true
  | .sdc2 _ _ _ => true
  | .mfc0 _ _ => true
  | .dmfc0 _ _ => true
  | .mtc0 _ _ => true
  | .dmtc0 _ _ => true
  | .cfc0 _ _ => true
  | .ctc0 _ _ => true
  | .bc0f _ => true
  | .bc0t _ => true
  | .bc0fl _ => true
  | .bc0tl _ => true
  | .tlbr => true
  | .tlbwi => true
  | .tlbwr => true
  | .tlbp => true
  | .eret => true
  | .wait => true
  | .mfc1 _ _ => true
  | .dmfc1 _ _ => true
  | .cfc1 _ _ => true
  | .mtc1 _ _ => true
  | .dmtc1 _ _ => true
  | .ctc1 _ _ => true
  | .bc1f _ => true
  | .bc1t _ => true
  | .bc1fl _ => true
  | .bc1tl _ => true
  | .addFmt fmt _ _ _ => fmtOk fmt
  | .subFmt fmt _ _ _ => fmtOk fmt
  | .mulFmt fmt _ _ _ => fmtOk fmt
  | .divFmt fmt _ _ _ => fmtOk fmt
  | .sqrtFmt fmt _ _ => fmtOk fmt
  | .absFmt fmt _ _ => fmtOk fmt
  | .movFmt fmt _ _ => fmtOk fmt
  | .negFmt fmt _ _ => fmtOk fmt
  | .roundLFmt fmt _ _ => fmtOk fmt
  | .truncLFmt fmt _ _ => fmtOk fmt
  | .ceilLFmt fmt _ _ => fmtOk fmt
  | .floorLFmt fmt _ _ => fmtOk fmt
  | .roundWFmt fmt _ _ => fmtOk fmt
  | .truncWFmt fmt _ _ => fmtOk fmt
  | .ceilWFmt fmt _ _ => fmtOk fmt
  | .floorWFmt fmt _ _ => fmtOk fmt
  | .cvtSFmt fmt _ _ => fmtOk fmt
  | .cvtDFmt fmt _ _ => fmtOk fmt
  | .cvtWFmt fmt _ _ => fmtOk fmt
  | .cvtLFmt fmt _ _ => fmtOk fmt
  | .cCondFmt fmt _ _ _ => fmtOk fmt
  | .mfc2 _ _ => true
  | .dmfc2 _ _ => true
  | .cfc2 _ _ => true
  | .mtc2 _ _ => true
  | .dmtc2 _ _ => true
  | .ctc2 _ _ => true
  | .bc2f _ => true
  | .bc2t _ => true
  | .bc2fl _ => true
  | .bc2tl _ => true
  | .cop2 _ => true

end Sys2Proof
end

