-- ==== Sys2Proof/Decode.lean ====
section
/-! DEFINITION. Decoding (30_encoding R280 to R290) by fixed bit fields, total on any word, and the encoder
(R292) after it. -/
namespace Sys2Proof

/-! ### Fields (30_encoding R272) -/

def opOf (w : Word) : BitVec 6 := w.extractLsb' 26 6
def rsOf (w : Word) : BitVec 5 := w.extractLsb' 21 5
def rtOf (w : Word) : BitVec 5 := w.extractLsb' 16 5
def rdOf (w : Word) : BitVec 5 := w.extractLsb' 11 5
def saOf (w : Word) : BitVec 5 := w.extractLsb' 6 5
def fnOf (w : Word) : BitVec 6 := w.extractLsb' 0 6
def immOf (w : Word) : BitVec 16 := w.extractLsb' 0 16
def targetOf (w : Word) : BitVec 26 := w.extractLsb' 0 26
def codeOf (w : Word) : BitVec 20 := w.extractLsb' 6 20
def trapCodeOf (w : Word) : BitVec 10 := w.extractLsb' 6 10
def cofunOf (w : Word) : BitVec 25 := w.extractLsb' 0 25
def condOf (w : Word) : BitVec 4 := w.extractLsb' 0 4

/-- What a word is. -/
inductive Decoded where
  /-- an instruction, its unused fields zero -/
  | instr (i : Instr)
  /-- an instruction, some unused field not zero (30_encoding R275) -/
  | unused (i : Instr)
  /-- Reserved Instruction: an undefined major opcode, SPECIAL or REGIMM code (30_encoding R290) -/
  | reserved
  /-- a reserved or invalid code of coprocessor `z`: Coprocessor Unusable, else Reserved Instruction -/
  | copReserved (z : BitVec 2)
  /-- an unimplemented floating-point function (key δ of 30_encoding R288, R289) -/
  | fpReserved (fmt : BitVec 5)
  deriving DecidableEq, Repr

/-- SPECIAL, by bits 5:0 (30_encoding R282). -/
def decodeSpecial (w : Word) : Decoded :=
  match (fnOf w).toNat with
  | 0 => .instr (.sll (rtOf w) (rdOf w) (saOf w))
  | 2 => .instr (.srl (rtOf w) (rdOf w) (saOf w))
  | 3 => .instr (.sra (rtOf w) (rdOf w) (saOf w))
  | 4 => .instr (.sllv (rsOf w) (rtOf w) (rdOf w))
  | 6 => .instr (.srlv (rsOf w) (rtOf w) (rdOf w))
  | 7 => .instr (.srav (rsOf w) (rtOf w) (rdOf w))
  | 8 => .instr (.jr (rsOf w))
  | 9 => .instr (.jalr (rsOf w) (rdOf w))
  | 12 => .instr (.syscall (codeOf w))
  | 13 => .instr (.brk (codeOf w))
  | 15 => .instr .sync
  | 16 => .instr (.mfhi (rdOf w))
  | 17 => .instr (.mthi (rsOf w))
  | 18 => .instr (.mflo (rdOf w))
  | 19 => .instr (.mtlo (rsOf w))
  | 20 => .instr (.dsllv (rsOf w) (rtOf w) (rdOf w))
  | 22 => .instr (.dsrlv (rsOf w) (rtOf w) (rdOf w))
  | 23 => .instr (.dsrav (rsOf w) (rtOf w) (rdOf w))
  | 24 => .instr (.mult (rsOf w) (rtOf w))
  | 25 => .instr (.multu (rsOf w) (rtOf w))
  | 26 => .instr (.div (rsOf w) (rtOf w))
  | 27 => .instr (.divu (rsOf w) (rtOf w))
  | 28 => .instr (.dmult (rsOf w) (rtOf w))
  | 29 => .instr (.dmultu (rsOf w) (rtOf w))
  | 30 => .instr (.ddiv (rsOf w) (rtOf w))
  | 31 => .instr (.ddivu (rsOf w) (rtOf w))
  | 32 => .instr (.add (rsOf w) (rtOf w) (rdOf w))
  | 33 => .instr (.addu (rsOf w) (rtOf w) (rdOf w))
  | 34 => .instr (.sub (rsOf w) (rtOf w) (rdOf w))
  | 35 => .instr (.subu (rsOf w) (rtOf w) (rdOf w))
  | 36 => .instr (.and (rsOf w) (rtOf w) (rdOf w))
  | 37 => .instr (.or (rsOf w) (rtOf w) (rdOf w))
  | 38 => .instr (.xor (rsOf w) (rtOf w) (rdOf w))
  | 39 => .instr (.nor (rsOf w) (rtOf w) (rdOf w))
  | 42 => .instr (.slt (rsOf w) (rtOf w) (rdOf w))
  | 43 => .instr (.sltu (rsOf w) (rtOf w) (rdOf w))
  | 44 => .instr (.dadd (rsOf w) (rtOf w) (rdOf w))
  | 45 => .instr (.daddu (rsOf w) (rtOf w) (rdOf w))
  | 46 => .instr (.dsub (rsOf w) (rtOf w) (rdOf w))
  | 47 => .instr (.dsubu (rsOf w) (rtOf w) (rdOf w))
  | 48 => .instr (.tge (rsOf w) (rtOf w) (trapCodeOf w))
  | 49 => .instr (.tgeu (rsOf w) (rtOf w) (trapCodeOf w))
  | 50 => .instr (.tlt (rsOf w) (rtOf w) (trapCodeOf w))
  | 51 => .instr (.tltu (rsOf w) (rtOf w) (trapCodeOf w))
  | 52 => .instr (.teq (rsOf w) (rtOf w) (trapCodeOf w))
  | 54 => .instr (.tne (rsOf w) (rtOf w) (trapCodeOf w))
  | 56 => .instr (.dsll (rtOf w) (rdOf w) (saOf w))
  | 58 => .instr (.dsrl (rtOf w) (rdOf w) (saOf w))
  | 59 => .instr (.dsra (rtOf w) (rdOf w) (saOf w))
  | 60 => .instr (.dsll32 (rtOf w) (rdOf w) (saOf w))
  | 62 => .instr (.dsrl32 (rtOf w) (rdOf w) (saOf w))
  | 63 => .instr (.dsra32 (rtOf w) (rdOf w) (saOf w))
  | _ => .reserved

/-- REGIMM, by bits 20:16 (30_encoding R284). -/
def decodeRegimm (w : Word) : Decoded :=
  match (rtOf w).toNat with
  | 0 => .instr (.bltz (rsOf w) (immOf w))
  | 1 => .instr (.bgez (rsOf w) (immOf w))
  | 2 => .instr (.bltzl (rsOf w) (immOf w))
  | 3 => .instr (.bgezl (rsOf w) (immOf w))
  | 8 => .instr (.tgei (rsOf w) (immOf w))
  | 9 => .instr (.tgeiu (rsOf w) (immOf w))
  | 10 => .instr (.tlti (rsOf w) (immOf w))
  | 11 => .instr (.tltiu (rsOf w) (immOf w))
  | 12 => .instr (.teqi (rsOf w) (immOf w))
  | 14 => .instr (.tnei (rsOf w) (immOf w))
  | 16 => .instr (.bltzal (rsOf w) (immOf w))
  | 17 => .instr (.bgezal (rsOf w) (immOf w))
  | 18 => .instr (.bltzall (rsOf w) (immOf w))
  | 19 => .instr (.bgezall (rsOf w) (immOf w))
  | _ => .reserved

/-- COP0 functions, by bits 5:0 (30_encoding R287). -/
def decodeCop0Co (w : Word) : Decoded :=
  match (fnOf w).toNat with
  | 1 => .instr .tlbr
  | 2 => .instr .tlbwi
  | 6 => .instr .tlbwr
  | 8 => .instr .tlbp
  | 24 => .instr .eret
  | 32 => .instr .wait
  | _ => .copReserved 0

/-- COP1 operations, by bits 5:0 (30_encoding R289); 48 to 63 are the compares. -/
def decodeCop1Op (w : Word) : Decoded :=
  match (fnOf w).toNat with
  | 0 => .instr (.addFmt (rsOf w) (rtOf w) (rdOf w) (saOf w))
  | 1 => .instr (.subFmt (rsOf w) (rtOf w) (rdOf w) (saOf w))
  | 2 => .instr (.mulFmt (rsOf w) (rtOf w) (rdOf w) (saOf w))
  | 3 => .instr (.divFmt (rsOf w) (rtOf w) (rdOf w) (saOf w))
  | 4 => .instr (.sqrtFmt (rsOf w) (rdOf w) (saOf w))
  | 5 => .instr (.absFmt (rsOf w) (rdOf w) (saOf w))
  | 6 => .instr (.movFmt (rsOf w) (rdOf w) (saOf w))
  | 7 => .instr (.negFmt (rsOf w) (rdOf w) (saOf w))
  | 8 => .instr (.roundLFmt (rsOf w) (rdOf w) (saOf w))
  | 9 => .instr (.truncLFmt (rsOf w) (rdOf w) (saOf w))
  | 10 => .instr (.ceilLFmt (rsOf w) (rdOf w) (saOf w))
  | 11 => .instr (.floorLFmt (rsOf w) (rdOf w) (saOf w))
  | 12 => .instr (.roundWFmt (rsOf w) (rdOf w) (saOf w))
  | 13 => .instr (.truncWFmt (rsOf w) (rdOf w) (saOf w))
  | 14 => .instr (.ceilWFmt (rsOf w) (rdOf w) (saOf w))
  | 15 => .instr (.floorWFmt (rsOf w) (rdOf w) (saOf w))
  | 32 => .instr (.cvtSFmt (rsOf w) (rdOf w) (saOf w))
  | 33 => .instr (.cvtDFmt (rsOf w) (rdOf w) (saOf w))
  | 36 => .instr (.cvtWFmt (rsOf w) (rdOf w) (saOf w))
  | 37 => .instr (.cvtLFmt (rsOf w) (rdOf w) (saOf w))
  | _ => if (fnOf w).toNat ≥ 48 then .instr (.cCondFmt (rsOf w) (rtOf w) (rdOf w) (condOf w)) else .fpReserved (rsOf w)

/-- The branches of coprocessor 0, by bits 20:16 (30_encoding R285). -/
def decodeBc0 (w : Word) : Decoded :=
  match (rtOf w).toNat with
  | 0 => .instr (.bc0f (immOf w))
  | 1 => .instr (.bc0t (immOf w))
  | 2 => .instr (.bc0fl (immOf w))
  | 3 => .instr (.bc0tl (immOf w))
  | _ => .copReserved 0

/-- Coprocessor 0, by bits 25:21 (30_encoding R285, R288). -/
def decodeCop0 (w : Word) : Decoded :=
  match (rsOf w).toNat with
  | 0 => .instr (.mfc0 (rtOf w) (rdOf w))
  | 1 => .instr (.dmfc0 (rtOf w) (rdOf w))
  | 4 => .instr (.mtc0 (rtOf w) (rdOf w))
  | 5 => .instr (.dmtc0 (rtOf w) (rdOf w))
  | 2 => .instr (.cfc0 (rtOf w) (rdOf w))
  | 6 => .instr (.ctc0 (rtOf w) (rdOf w))
  | 8 => decodeBc0 w
  | _ => if w.getLsbD 25 then decodeCop0Co w else .copReserved 0

/-- The branches of coprocessor 1, by bits 20:16 (30_encoding R285). -/
def decodeBc1 (w : Word) : Decoded :=
  match (rtOf w).toNat with
  | 0 => .instr (.bc1f (immOf w))
  | 1 => .instr (.bc1t (immOf w))
  | 2 => .instr (.bc1fl (immOf w))
  | 3 => .instr (.bc1tl (immOf w))
  | _ => .copReserved 1

/-- Coprocessor 1, by bits 25:21 (30_encoding R285, R288). -/
def decodeCop1 (w : Word) : Decoded :=
  match (rsOf w).toNat with
  | 0 => .instr (.mfc1 (rtOf w) (rdOf w))
  | 1 => .instr (.dmfc1 (rtOf w) (rdOf w))
  | 2 => .instr (.cfc1 (rtOf w) (rdOf w))
  | 4 => .instr (.mtc1 (rtOf w) (rdOf w))
  | 5 => .instr (.dmtc1 (rtOf w) (rdOf w))
  | 6 => .instr (.ctc1 (rtOf w) (rdOf w))
  | 8 => decodeBc1 w
  | _ => if w.getLsbD 25 then decodeCop1Op w else .copReserved 1

/-- The branches of coprocessor 2, by bits 20:16 (30_encoding R285). -/
def decodeBc2 (w : Word) : Decoded :=
  match (rtOf w).toNat with
  | 0 => .instr (.bc2f (immOf w))
  | 1 => .instr (.bc2t (immOf w))
  | 2 => .instr (.bc2fl (immOf w))
  | 3 => .instr (.bc2tl (immOf w))
  | _ => .copReserved 2

/-- Coprocessor 2, by bits 25:21 (30_encoding R285, R288). -/
def decodeCop2 (w : Word) : Decoded :=
  match (rsOf w).toNat with
  | 0 => .instr (.mfc2 (rtOf w) (rdOf w))
  | 1 => .instr (.dmfc2 (rtOf w) (rdOf w))
  | 2 => .instr (.cfc2 (rtOf w) (rdOf w))
  | 4 => .instr (.mtc2 (rtOf w) (rdOf w))
  | 5 => .instr (.dmtc2 (rtOf w) (rdOf w))
  | 6 => .instr (.ctc2 (rtOf w) (rdOf w))
  | 8 => decodeBc2 w
  | _ => if w.getLsbD 25 then .instr (.cop2 (cofunOf w)) else .copReserved 2

/-- The instruction a word names, its unused fields ignored (30_encoding R280, R281). -/
def decodeRaw (w : Word) : Decoded :=
  match (opOf w).toNat with
  | 0 => decodeSpecial w
  | 1 => decodeRegimm w
  | 2 => .instr (.j (targetOf w))
  | 3 => .instr (.jal (targetOf w))
  | 4 => .instr (.beq (rsOf w) (rtOf w) (immOf w))
  | 5 => .instr (.bne (rsOf w) (rtOf w) (immOf w))
  | 6 => .instr (.blez (rsOf w) (immOf w))
  | 7 => .instr (.bgtz (rsOf w) (immOf w))
  | 8 => .instr (.addi (rsOf w) (rtOf w) (immOf w))
  | 9 => .instr (.addiu (rsOf w) (rtOf w) (immOf w))
  | 10 => .instr (.slti (rsOf w) (rtOf w) (immOf w))
  | 11 => .instr (.sltiu (rsOf w) (rtOf w) (immOf w))
  | 12 => .instr (.andi (rsOf w) (rtOf w) (immOf w))
  | 13 => .instr (.ori (rsOf w) (rtOf w) (immOf w))
  | 14 => .instr (.xori (rsOf w) (rtOf w) (immOf w))
  | 15 => .instr (.lui (rtOf w) (immOf w))
  | 16 => decodeCop0 w
  | 17 => decodeCop1 w
  | 18 => decodeCop2 w
  | 20 => .instr (.beql (rsOf w) (rtOf w) (immOf w))
  | 21 => .instr (.bnel (rsOf w) (rtOf w) (immOf w))
  | 22 => .instr (.blezl (rsOf w) (immOf w))
  | 23 => .instr (.bgtzl (rsOf w) (immOf w))
  | 24 => .instr (.daddi (rsOf w) (rtOf w) (immOf w))
  | 25 => .instr (.daddiu (rsOf w) (rtOf w) (immOf w))
  | 26 => .instr (.ldl (rsOf w) (rtOf w) (immOf w))
  | 27 => .instr (.ldr (rsOf w) (rtOf w) (immOf w))
  | 32 => .instr (.lb (rsOf w) (rtOf w) (immOf w))
  | 33 => .instr (.lh (rsOf w) (rtOf w) (immOf w))
  | 34 => .instr (.lwl (rsOf w) (rtOf w) (immOf w))
  | 35 => .instr (.lw (rsOf w) (rtOf w) (immOf w))
  | 36 => .instr (.lbu (rsOf w) (rtOf w) (immOf w))
  | 37 => .instr (.lhu (rsOf w) (rtOf w) (immOf w))
  | 38 => .instr (.lwr (rsOf w) (rtOf w) (immOf w))
  | 39 => .instr (.lwu (rsOf w) (rtOf w) (immOf w))
  | 40 => .instr (.sb (rsOf w) (rtOf w) (immOf w))
  | 41 => .instr (.sh (rsOf w) (rtOf w) (immOf w))
  | 42 => .instr (.swl (rsOf w) (rtOf w) (immOf w))
  | 43 => .instr (.sw (rsOf w) (rtOf w) (immOf w))
  | 44 => .instr (.sdl (rsOf w) (rtOf w) (immOf w))
  | 45 => .instr (.sdr (rsOf w) (rtOf w) (immOf w))
  | 46 => .instr (.swr (rsOf w) (rtOf w) (immOf w))
  | 47 => .instr (.cache (rsOf w) (rtOf w) (immOf w))
  | 48 => .instr (.ll (rsOf w) (rtOf w) (immOf w))
  | 49 => .instr (.lwc1 (rsOf w) (rtOf w) (immOf w))
  | 50 => .instr (.lwc2 (rsOf w) (rtOf w) (immOf w))
  | 52 => .instr (.lld (rsOf w) (rtOf w) (immOf w))
  | 53 => .instr (.ldc1 (rsOf w) (rtOf w) (immOf w))
  | 54 => .instr (.ldc2 (rsOf w) (rtOf w) (immOf w))
  | 55 => .instr (.ld (rsOf w) (rtOf w) (immOf w))
  | 56 => .instr (.sc (rsOf w) (rtOf w) (immOf w))
  | 57 => .instr (.swc1 (rsOf w) (rtOf w) (immOf w))
  | 58 => .instr (.swc2 (rsOf w) (rtOf w) (immOf w))
  | 60 => .instr (.scd (rsOf w) (rtOf w) (immOf w))
  | 61 => .instr (.sdc1 (rsOf w) (rtOf w) (immOf w))
  | 62 => .instr (.sdc2 (rsOf w) (rtOf w) (immOf w))
  | 63 => .instr (.sd (rsOf w) (rtOf w) (immOf w))
  | _ => .reserved

/-! ### Encoding (30_encoding R271, R274, R292) -/

/-- Register format: op, rs, rt, rd, sa, funct. -/
def mkR (op : BitVec 6) (rs rt rd sa : BitVec 5) (fn : BitVec 6) : Word := op ++ rs ++ rt ++ rd ++ sa ++ fn
/-- Immediate format: op, rs, rt, immediate. -/
def mkI (op : BitVec 6) (rs rt : BitVec 5) (imm : BitVec 16) : Word := op ++ rs ++ rt ++ imm
/-- Jump format: op, target. -/
def mkJ (op : BitVec 6) (target : BitVec 26) : Word := op ++ target
/-- SYSCALL and BREAK: op, code, funct. -/
def mkCode (op : BitVec 6) (code : BitVec 20) (fn : BitVec 6) : Word := op ++ code ++ fn
/-- Traps: op, rs, rt, code, funct. -/
def mkTrap (op : BitVec 6) (rs rt : BitVec 5) (code : BitVec 10) (fn : BitVec 6) : Word :=
  op ++ rs ++ rt ++ code ++ fn
/-- COP0 functions: op, CO, zeros, funct. -/
def mkCo (op : BitVec 6) (fn : BitVec 6) : Word := op ++ (1 : BitVec 1) ++ (0 : BitVec 19) ++ fn
/-- Coprocessor operation: op, CO, function. -/
def mkCop2 (op : BitVec 6) (cofun : BitVec 25) : Word := op ++ (1 : BitVec 1) ++ cofun
/-- Floating-point compare: op, fmt, ft, fs, zeros, 11, cond. -/
def mkCmp (op : BitVec 6) (fmt ft fs : BitVec 5) (cond : BitVec 4) : Word :=
  op ++ fmt ++ ft ++ fs ++ (0 : BitVec 5) ++ (3 : BitVec 2) ++ cond

/-- The word of an instruction, its unused fields zero (30_encoding R292). -/
def encode : Instr → Word
  | .sll rt rd sa => mkR 0 0 rt rd sa 0
  | .srl rt rd sa => mkR 0 0 rt rd sa 2
  | .sra rt rd sa => mkR 0 0 rt rd sa 3
  | .sllv rs rt rd => mkR 0 rs rt rd 0 4
  | .srlv rs rt rd => mkR 0 rs rt rd 0 6
  | .srav rs rt rd => mkR 0 rs rt rd 0 7
  | .jr rs => mkR 0 rs 0 0 0 8
  | .jalr rs rd => mkR 0 rs 0 rd 0 9
  | .syscall code => mkCode 0 code 12
  | .brk code => mkCode 0 code 13
  | .sync => mkR 0 0 0 0 0 15
  | .mfhi rd => mkR 0 0 0 rd 0 16
  | .mthi rs => mkR 0 rs 0 0 0 17
  | .mflo rd => mkR 0 0 0 rd 0 18
  | .mtlo rs => mkR 0 rs 0 0 0 19
  | .dsllv rs rt rd => mkR 0 rs rt rd 0 20
  | .dsrlv rs rt rd => mkR 0 rs rt rd 0 22
  | .dsrav rs rt rd => mkR 0 rs rt rd 0 23
  | .mult rs rt => mkR 0 rs rt 0 0 24
  | .multu rs rt => mkR 0 rs rt 0 0 25
  | .div rs rt => mkR 0 rs rt 0 0 26
  | .divu rs rt => mkR 0 rs rt 0 0 27
  | .dmult rs rt => mkR 0 rs rt 0 0 28
  | .dmultu rs rt => mkR 0 rs rt 0 0 29
  | .ddiv rs rt => mkR 0 rs rt 0 0 30
  | .ddivu rs rt => mkR 0 rs rt 0 0 31
  | .add rs rt rd => mkR 0 rs rt rd 0 32
  | .addu rs rt rd => mkR 0 rs rt rd 0 33
  | .sub rs rt rd => mkR 0 rs rt rd 0 34
  | .subu rs rt rd => mkR 0 rs rt rd 0 35
  | .and rs rt rd => mkR 0 rs rt rd 0 36
  | .or rs rt rd => mkR 0 rs rt rd 0 37
  | .xor rs rt rd => mkR 0 rs rt rd 0 38
  | .nor rs rt rd => mkR 0 rs rt rd 0 39
  | .slt rs rt rd => mkR 0 rs rt rd 0 42
  | .sltu rs rt rd => mkR 0 rs rt rd 0 43
  | .dadd rs rt rd => mkR 0 rs rt rd 0 44
  | .daddu rs rt rd => mkR 0 rs rt rd 0 45
  | .dsub rs rt rd => mkR 0 rs rt rd 0 46
  | .dsubu rs rt rd => mkR 0 rs rt rd 0 47
  | .tge rs rt code => mkTrap 0 rs rt code 48
  | .tgeu rs rt code => mkTrap 0 rs rt code 49
  | .tlt rs rt code => mkTrap 0 rs rt code 50
  | .tltu rs rt code => mkTrap 0 rs rt code 51
  | .teq rs rt code => mkTrap 0 rs rt code 52
  | .tne rs rt code => mkTrap 0 rs rt code 54
  | .dsll rt rd sa => mkR 0 0 rt rd sa 56
  | .dsrl rt rd sa => mkR 0 0 rt rd sa 58
  | .dsra rt rd sa => mkR 0 0 rt rd sa 59
  | .dsll32 rt rd sa => mkR 0 0 rt rd sa 60
  | .dsrl32 rt rd sa => mkR 0 0 rt rd sa 62
  | .dsra32 rt rd sa => mkR 0 0 rt rd sa 63
  | .bltz rs offset => mkI 1 rs 0 offset
  | .bgez rs offset => mkI 1 rs 1 offset
  | .bltzl rs offset => mkI 1 rs 2 offset
  | .bgezl rs offset => mkI 1 rs 3 offset
  | .tgei rs imm => mkI 1 rs 8 imm
  | .tgeiu rs imm => mkI 1 rs 9 imm
  | .tlti rs imm => mkI 1 rs 10 imm
  | .tltiu rs imm => mkI 1 rs 11 imm
  | .teqi rs imm => mkI 1 rs 12 imm
  | .tnei rs imm => mkI 1 rs 14 imm
  | .bltzal rs offset => mkI 1 rs 16 offset
  | .bgezal rs offset => mkI 1 rs 17 offset
  | .bltzall rs offset => mkI 1 rs 18 offset
  | .bgezall rs offset => mkI 1 rs 19 offset
  | .j target => mkJ 2 target
  | .jal target => mkJ 3 target
  | .beq rs rt offset => mkI 4 rs rt offset
  | .bne rs rt offset => mkI 5 rs rt offset
  | .blez rs offset => mkI 6 rs 0 offset
  | .bgtz rs offset => mkI 7 rs 0 offset
  | .addi rs rt imm => mkI 8 rs rt imm
  | .addiu rs rt imm => mkI 9 rs rt imm
  | .slti rs rt imm => mkI 10 rs rt imm
  | .sltiu rs rt imm => mkI 11 rs rt imm
  | .andi rs rt imm => mkI 12 rs rt imm
  | .ori rs rt imm => mkI 13 rs rt imm
  | .xori rs rt imm => mkI 14 rs rt imm
  | .lui rt imm => mkI 15 0 rt imm
  | .beql rs rt offset => mkI 20 rs rt offset
  | .bnel rs rt offset => mkI 21 rs rt offset
  | .blezl rs offset => mkI 22 rs 0 offset
  | .bgtzl rs offset => mkI 23 rs 0 offset
  | .daddi rs rt imm => mkI 24 rs rt imm
  | .daddiu rs rt imm => mkI 25 rs rt imm
  | .ldl base rt offset => mkI 26 base rt offset
  | .ldr base rt offset => mkI 27 base rt offset
  | .lb base rt offset => mkI 32 base rt offset
  | .lh base rt offset => mkI 33 base rt offset
  | .lwl base rt offset => mkI 34 base rt offset
  | .lw base rt offset => mkI 35 base rt offset
  | .lbu base rt offset => mkI 36 base rt offset
  | .lhu base rt offset => mkI 37 base rt offset
  | .lwr base rt offset => mkI 38 base rt offset
  | .lwu base rt offset => mkI 39 base rt offset
  | .sb base rt offset => mkI 40 base rt offset
  | .sh base rt offset => mkI 41 base rt offset
  | .swl base rt offset => mkI 42 base rt offset
  | .sw base rt offset => mkI 43 base rt offset
  | .sdl base rt offset => mkI 44 base rt offset
  | .sdr base rt offset => mkI 45 base rt offset
  | .swr base rt offset => mkI 46 base rt offset
  | .cache base op offset => mkI 47 base op offset
  | .ll base rt offset => mkI 48 base rt offset
  | .lld base rt offset => mkI 52 base rt offset
  | .ld base rt offset => mkI 55 base rt offset
  | .sc base rt offset => mkI 56 base rt offset
  | .scd base rt offset => mkI 60 base rt offset
  | .sd base rt offset => mkI 63 base rt offset
  | .lwc1 base ft offset => mkI 49 base ft offset
  | .ldc1 base ft offset => mkI 53 base ft offset
  | .swc1 base ft offset => mkI 57 base ft offset
  | .sdc1 base ft offset => mkI 61 base ft offset
  | .lwc2 base rt offset => mkI 50 base rt offset
  | .ldc2 base rt offset => mkI 54 base rt offset
  | .swc2 base rt offset => mkI 58 base rt offset
  | .sdc2 base rt offset => mkI 62 base rt offset
  | .mfc0 rt rd => mkR 16 0 rt rd 0 0
  | .dmfc0 rt rd => mkR 16 1 rt rd 0 0
  | .mtc0 rt rd => mkR 16 4 rt rd 0 0
  | .dmtc0 rt rd => mkR 16 5 rt rd 0 0
  | .cfc0 rt rd => mkR 16 2 rt rd 0 0
  | .ctc0 rt rd => mkR 16 6 rt rd 0 0
  | .bc0f offset => mkI 16 8 0 offset
  | .bc0t offset => mkI 16 8 1 offset
  | .bc0fl offset => mkI 16 8 2 offset
  | .bc0tl offset => mkI 16 8 3 offset
  | .tlbr => mkCo 16 1
  | .tlbwi => mkCo 16 2
  | .tlbwr => mkCo 16 6
  | .tlbp => mkCo 16 8
  | .eret => mkCo 16 24
  | .wait => mkCo 16 32
  | .mfc1 rt fs => mkR 17 0 rt fs 0 0
  | .dmfc1 rt fs => mkR 17 1 rt fs 0 0
  | .cfc1 rt fs => mkR 17 2 rt fs 0 0
  | .mtc1 rt fs => mkR 17 4 rt fs 0 0
  | .dmtc1 rt fs => mkR 17 5 rt fs 0 0
  | .ctc1 rt fs => mkR 17 6 rt fs 0 0
  | .bc1f offset => mkI 17 8 0 offset
  | .bc1t offset => mkI 17 8 1 offset
  | .bc1fl offset => mkI 17 8 2 offset
  | .bc1tl offset => mkI 17 8 3 offset
  | .addFmt fmt ft fs fd => mkR 17 fmt ft fs fd 0
  | .subFmt fmt ft fs fd => mkR 17 fmt ft fs fd 1
  | .mulFmt fmt ft fs fd => mkR 17 fmt ft fs fd 2
  | .divFmt fmt ft fs fd => mkR 17 fmt ft fs fd 3
  | .sqrtFmt fmt fs fd => mkR 17 fmt 0 fs fd 4
  | .absFmt fmt fs fd => mkR 17 fmt 0 fs fd 5
  | .movFmt fmt fs fd => mkR 17 fmt 0 fs fd 6
  | .negFmt fmt fs fd => mkR 17 fmt 0 fs fd 7
  | .roundLFmt fmt fs fd => mkR 17 fmt 0 fs fd 8
  | .truncLFmt fmt fs fd => mkR 17 fmt 0 fs fd 9
  | .ceilLFmt fmt fs fd => mkR 17 fmt 0 fs fd 10
  | .floorLFmt fmt fs fd => mkR 17 fmt 0 fs fd 11
  | .roundWFmt fmt fs fd => mkR 17 fmt 0 fs fd 12
  | .truncWFmt fmt fs fd => mkR 17 fmt 0 fs fd 13
  | .ceilWFmt fmt fs fd => mkR 17 fmt 0 fs fd 14
  | .floorWFmt fmt fs fd => mkR 17 fmt 0 fs fd 15
  | .cvtSFmt fmt fs fd => mkR 17 fmt 0 fs fd 32
  | .cvtDFmt fmt fs fd => mkR 17 fmt 0 fs fd 33
  | .cvtWFmt fmt fs fd => mkR 17 fmt 0 fs fd 36
  | .cvtLFmt fmt fs fd => mkR 17 fmt 0 fs fd 37
  | .cCondFmt fmt ft fs cond => mkCmp 17 fmt ft fs cond
  | .mfc2 rt rd => mkR 18 0 rt rd 0 0
  | .dmfc2 rt rd => mkR 18 1 rt rd 0 0
  | .cfc2 rt rd => mkR 18 2 rt rd 0 0
  | .mtc2 rt rd => mkR 18 4 rt rd 0 0
  | .dmtc2 rt rd => mkR 18 5 rt rd 0 0
  | .ctc2 rt rd => mkR 18 6 rt rd 0 0
  | .bc2f offset => mkI 18 8 0 offset
  | .bc2t offset => mkI 18 8 1 offset
  | .bc2fl offset => mkI 18 8 2 offset
  | .bc2tl offset => mkI 18 8 3 offset
  | .cop2 cofun => mkCop2 18 cofun

/-- The class of a word: the instruction it names, and whether its unused fields are zero (30_encoding R275). -/
def decode (w : Word) : Decoded :=
  match decodeRaw w with
  | .instr i => if encode i = w then .instr i else .unused i
  | d => d

/-- The instruction in a word given as `nbits` bits of a number; every table row is one 32-bit word. Unused fields
are ignored, as the machine does under IGNORE_UNUSED_FIELDS. -/
def decodeTableWord (nbits w : Nat) : Option Instr :=
  match decode (BitVec.ofNat 32 (w % 2 ^ nbits)) with
  | .instr i => some i
  | .unused i => some i
  | _ => none

end Sys2Proof
end

