-- ==== Sys2Proof/Config.lean ====
section
/-! DEFINITION. What the manual leaves open. `FreeSite` names every open point; `Config.freeWord` is the
one opaque source of the values there (93_implementation_defined, treatments `any value` and `draw`):
no proof can learn anything about them. The platform and boot parameters are plain data (`Params`,
in Machine/State.lean). -/
namespace Sys2Proof

/-- Who reads a CP0 register or another late-written piece of state (70_reset_and_hazards R857 to R860);
each reader has its hazard window and its own draw. -/
inductive Reader where
  /-- MFC0, DMFC0, TLBR, TLBWI, TLBWR, TLBP, CACHE -/
  | move
  | eret
  /-- the coprocessor usable test -/
  | usable
  /-- the test of 64-bit operations -/
  | ops64
  /-- mode, RE, ASID and K0 of a load or store -/
  | data
  /-- KX, SX, UX of a load or store -/
  | dataWidth
  /-- mode, ASID, K0 of an instruction fetch -/
  | fetch
  /-- KX, SX, UX of an instruction fetch -/
  | fetchWidth
  /-- BEV, KX, SX, UX of an exception's vector -/
  | vector
  | interrupt
  /-- FR -/
  | fpu
  /-- DE -/
  | parityEnable
  /-- CE -/
  | forcedParity
  deriving DecidableEq, Repr

/-- The points at which the spec leaves a value open. Each names the entry of
93_implementation_defined Part 1 (U<n>) or of 92_eei_decisions (D<n>) it stands for. -/
inductive FreeSite where
  /-- U40, D3: the result of a 32-bit operation on an operand that is not sign-extended. -/
  | arith32
  /-- U40, D3: whether such an operation traps on overflow. -/
  | overflow32
  /-- U40, U41: HI after such a multiply or divide, or after a division by zero. -/
  | mulDivHi
  /-- U40, U41: LO after such a multiply or divide, or after a division by zero. -/
  | mulDivLo
  /-- U42: the other register after MTHI or MTLO. -/
  | hiLoPartner
  /-- U43: the destination of an MFHI or MFLO when HI or LO is written too early. -/
  | hiLoRead (hi : Bool) (r : Reg)
  /-- U44: the next pc after a jump or branch in a delay slot. -/
  | slotBranch
  /-- U44: link register `r` after a jump or branch in a delay slot, when it or the branch before it links. -/
  | slotLink (r : Reg)
  /-- U45: the target of JALR with rs = rd. -/
  | jalrTarget
  /-- U45: the link of JALR with rs = rd. -/
  | jalrLink
  /-- U75, U20: whether a reader of CP0 register `r` inside its window sees the value from before the
  write `age` instructions ago. -/
  | hazardCp0 (r : Reg) (who : Reader) (age : Nat)
  /-- U63: whether the next instruction sees the old general register. -/
  | hazardGpr (r : Reg)
  /-- U63: whether the next instruction sees the old floating-point register. -/
  | hazardFgr (r : Reg)
  /-- U63: whether the next instruction sees the old FCR31. -/
  | hazardFcr31
  /-- U64, D42: whether a BC1 branch sees the old condition. -/
  | hazardFcc
  /-- U75: whether the interrupt test, or a read of Cause, sees the old timer latch (after a write of Compare). -/
  | hazardTimer (who : Reader)
  /-- 70_reset_and_hazards R858: whether a newly set IE is already seen. -/
  | hazardIe
  /-- U75: whether a fetch sees TLB entry `i` as it was before the write of `age` instructions ago. -/
  | hazardTlb (i age : Nat)
  /-- D44: whether a fetch sees instruction cache line `i` as it was before the operation of `age` instructions ago. -/
  | hazardICache (i age : Nat)
  /-- D44: whether a fetch from memory sees the bytes from before a store of `age` instructions ago at `pa`. -/
  | hazardCode (pa : PAddr) (age : Nat)
  /-- 70_reset_and_hazards R857 note δ: whether the `k`-th fetch behind an instruction, which was killed, changed the
  address registers. -/
  | killedFetch (k : Nat)
  /-- U39: whether the fetch, or the data reference, after TLBP translates otherwise than usual. -/
  | tlbpRef (who : Reader)
  /-- U30, U14, U39: an undefined translation's physical address and attribute. -/
  | translation (who : Reader)
  /-- U14: whether TLB entry `i` with an illegal mask matches. -/
  | illegalMask (who : Reader) (i : Nat)
  /-- U30: Index after a TLBP with several matches. -/
  | tlbpIndex
  /-- U15: Random when Wired exceeds 47. -/
  | randomRange
  /-- U17: a CP0 register loaded by TLBR with an Index above 47. -/
  | tlbrReg (r : Reg)
  /-- U17: part `k` of TLB entry `i` after a TLB write with an index above 47. -/
  | tlbAny (i k : Nat)
  /-- U18: a CP0 register an Address Error or TLB exception leaves undefined. -/
  | faultReg (r : Reg)
  /-- 60_exceptions R714: CacheErr.EB of an instruction's parity error. -/
  | cacheErrEb
  /-- U10, D6: a read of a reserved CP0 register number. -/
  | cp0Reserved
  /-- U11: DMFC0 from a 32-bit register. -/
  | dmfc0Narrow
  /-- U12: DMTC0 to a 32-bit register. -/
  | dmtc0Narrow
  /-- U32: the way a cache refill replaces. -/
  | victimWay (instr : Bool)
  /-- U33: which of two lines with one tag a fetch uses, or a data reference. -/
  | sameTag (instr : Bool)
  /-- U33: which of two instruction lines with one tag a Hit operation of CACHE uses. -/
  | sameTagHit
  /-- 22_caches R242: bit 12 of a write-back address when tag and index disagree. -/
  | writeBackBit12
  /-- 22_caches R235: the FIFO bit after a refill for a fetch, or for a data reference. -/
  | fifoBit (instr : Bool)
  /-- 22_caches R235: the FIFO bit after Fill. -/
  | fillFifo
  /-- 22_caches R235, R246: whether Index Store Tag takes TagLo.F. -/
  | storeFifo (instr : Bool)
  /-- U36: W after Index Store Tag. -/
  | storeTagW
  /-- 91_not_in_source: TagLo bits 5:2, and PState of a valid instruction line, after Index Load Tag. -/
  | loadTagBits
  /-- 91_not_in_source: the ECC register after Index Load Tag on the instruction cache. -/
  | loadTagEcc
  /-- 91_not_in_source: the two word parities Fill takes from ECC. -/
  | fillEcc
  /-- 70_reset_and_hazards R832, D41: doubleword `k` of entry `i` of the write buffer when a reset aborts it. -/
  | abortedWrite (i k : Nat)
  /-- 70_reset_and_hazards R832, D41: part `k` of line `i` of a cache whose refill or write-back a reset aborts. -/
  | abortedLine (instr : Bool) (i k : Nat)
  /-- 92_eei_decisions D1: what a device answers in data cycle `n` of the step. -/
  | deviceData (n : Nat)
  /-- 61_system_interface R786: the reserved bits of data identifier `n` the processor sends. -/
  | reservedId (n : Nat)
  /-- 61_system_interface R791, R796: what the processor drives on SysAD in data cycle `n` where no byte is valid. -/
  | unusedLanes (n : Nat)
  /-- U48: LLbit after a load linked of an uncached location. -/
  | uncachedLink
  /-- U53, D28: the condition BC0x and BC2x test. -/
  | copCondition
  /-- U53, D9: a value that would come from coprocessor 2. -/
  | cop2Value
  /-- U60: the upper half of a 64-bit FGR after a 32-bit write; `r` the register. -/
  | fgrUpper (r : Reg)
  /-- U61, D34: the FCR31 Cause and Flag fields after an odd operand or result. -/
  | oddStatus
  /-- U61, D34: the result of an operation with an odd register. -/
  | oddResult
  /-- U62, D35: CFC1 from an undefined control register. -/
  | cfc1Value
  deriving DecidableEq, Repr

/-- The open values. `Config.freeWord site n` is the value at the open point `site` in step `n`
of the machine (`State.free` counts steps). It has no body a proof could look into. -/
opaque Config.freeWord : FreeSite → Nat → BitVec 64

/-- Bit 0 of an open value: a draw between two outcomes. -/
def Config.freePick (site : FreeSite) (n : Nat) : Bool := (Config.freeWord site n).getLsbD 0

end Sys2Proof
end

