-- ==== Sys2Proof/Machine/State.lean ====
section
/-! DEFINITION. The state of the machine as plain data: every piece of state the spec gives it (INVENTORY.md
'## State' lists each with its rule), the reasons a step can stop, and the state after reset. -/
namespace Sys2Proof.Machine

/-- What stands at a physical region that is not memory (00_scope R11, 92_eei_decisions D1). -/
inductive RegionKind where
  /-- A read is answered with erroneous data: a bus error (60_exceptions R706, R707). A write is lost. -/
  | busError
  /-- A read is never answered (93_implementation_defined U74); a write is never accepted (20_memory R162). -/
  | noResponse
  /-- A device: a read is answered with open data, a write is sent and changes no memory (92_eei_decisions D1). -/
  | device
  /-- Memory that answers with wrong parity (60_exceptions R714 (d)). -/
  | badParity
  deriving DecidableEq, Repr

/-- A physical region that is not plain memory: `base <= pa < base + size`, for accesses of the sizes listed. -/
structure Region where
  base : Nat
  size : Nat
  kind : RegionKind
  /-- the access sizes in bytes, 32 for a block; empty: every size -/
  sizes : List Nat
  deriving DecidableEq, Repr

/-- TAGLO_LAYOUT: the lowest bit of PState, the bit F and the bit P in TagLo (11_cp0_registers R112). -/
structure TagLoLayout where
  pState : BitVec 3
  fifo   : BitVec 3
  par    : BitVec 3
  deriving DecidableEq, Repr

/-- The fields of a layout lie below PTagLo and apart from each other. -/
def TagLoLayout.ok (l : TagLoLayout) : Bool :=
  l.pState != 7 && l.fifo != l.pState && l.fifo != l.pState + 1 && l.par != l.pState && l.par != l.pState + 1
    && l.fifo != l.par

/-- The parameters of 93_implementation_defined Part 3. The five boot fields are set by a cold reset
(70_reset_and_hazards R836); nothing changes the others. -/
structure Params where
  /-- BOOT_BIG_ENDIAN, the manual's BigEndianMem. -/
  bigEndian : Bool
  /-- BOOT_SYSCK_RATIO. -/
  sysCkRatio : BitVec 3
  /-- BOOT_XMIT_DAT_PAT. -/
  xmitDatPat : BitVec 4
  /-- BOOT_NONBLOCK_WRITE. -/
  nonblockWrite : BitVec 2
  /-- BOOT_TMR_INT_EN: 0 enables the timer interrupt on IP7. -/
  tmrIntEn : Bool
  /-- PRID_REV. -/
  pridRev : BitVec 8
  /-- FCR0_REV. -/
  fcr0Rev : BitVec 8
  /-- QNAN_S. -/
  qnanS : BitVec 32
  /-- QNAN_D. -/
  qnanD : BitVec 64
  /-- IGNORE_UNUSED_FIELDS (D22). -/
  ignoreUnusedFields : Bool
  /-- FIXED_CONVERT_OUT_OF_RANGE: false is E, true is V (D10). -/
  fixedConvertInvalid : Bool
  /-- MOVE_DELAY_INTERLOCKED (70_reset_and_hazards R852). -/
  moveDelayInterlocked : Bool
  /-- Count advances `countNum` every `countDen` steps (D4). -/
  countNum : Nat
  countDen : Nat
  /-- TAGLO_LAYOUT (11_cp0_registers R112). -/
  tagLo : TagLoLayout
  /-- PHYS_MAP: the regions that are not memory, by address and access size (D1). The first that covers an access
  counts. -/
  physMap : List Region
  deriving DecidableEq, Repr

/-- The pending-branch record: the instruction at pc is the delay slot of the branch at `branchPc`
(10_state R38). -/
structure Pending where
  branchPc : DWord
  target   : DWord
  /-- the link register the branch wrote; 0 if none (43_jumps_branches R464 item 1) -/
  link     : Reg
  deriving DecidableEq, Repr

/-- One page of a TLB entry (21_mmu_tlb R201). -/
structure TlbHalf where
  pfn : BitVec 24
  c   : BitVec 3
  d   : Bool
  v   : Bool
  deriving DecidableEq, Repr

/-- One TLB entry: what carries information of its 256 bits (21_mmu_tlb R201). -/
structure TlbEntry where
  mask : BitVec 12
  r    : BitVec 2
  vpn2 : BitVec 27
  g    : Bool
  asid : BitVec 8
  lo0  : TlbHalf
  lo1  : TlbHalf
  deriving DecidableEq, Repr

/-- One instruction cache line (22_caches R230). -/
structure ILine where
  tag    : BitVec 24
  valid  : Bool
  /-- parity of each of the eight words -/
  par    : BitVec 8
  tagPar : Bool
  fifo   : Bool
  reserved : Bool
  data   : LineData
  deriving DecidableEq, Repr

/-- One data cache line (22_caches R231, R232): state 0 Invalid, 1 Shared, 2 Clean Exclusive, 3 Dirty
Exclusive (11_cp0_registers R112). -/
structure DLine where
  tag    : BitVec 24
  state  : BitVec 2
  /-- the write-back bit W -/
  w      : Bool
  /-- parity of each of the 32 bytes -/
  par    : BitVec 32
  tagPar : Bool
  wPar   : Bool
  fifo   : Bool
  data   : LineData
  deriving DecidableEq, Repr

/-- The content of the write buffer's entries (20_memory R160). -/
inductive WEntry where
  /-- `n` bytes from physical address `pa`, in their lanes of the doubleword `data`. -/
  | word (pa : PAddr) (n : Nat) (data : DWord)
  /-- A 32-byte line with the parity of each byte; `retained`: a copy stays in the cache (61_system_interface R776);
  `slot`: where it came from, whether the instruction cache, and the index. -/
  | line (pa : PAddr) (data : LineData) (par : BitVec 32) (retained : Bool) (slot : Bool × Nat)
  deriving DecidableEq, Repr

/-- A data cycle (61_system_interface R766, R786, R788): the data identifier on SysCmd (bit 8 is 1), SysAD, and
SysADC, whose bit `j` covers byte lane `j`. -/
structure DataCycle where
  id    : BitVec 9
  data  : DWord
  check : BitVec 8
  deriving DecidableEq, Repr

/-- A request, or an answer, the processor put on the system interface: the address cycle and the data cycles that
follow it (61_system_interface R766, R784 to R786, R796). -/
inductive BusReq where
  | blockRead (pa : PAddr) (linkRetained : Bool)
  | read (pa : PAddr) (n : Nat)
  | blockWrite (pa : PAddr) (retained : Bool) (cycles : List DataCycle)
  | write (pa : PAddr) (n : Nat) (cycle : DataCycle)
  /-- the answer to an external read request (R796): a data cycle alone -/
  | externalReadAnswer (cycle : DataCycle)
  deriving DecidableEq, Repr

/-- A processor read that the external agent has not answered (61_system_interface R768, R783). -/
structure BusWait where
  /-- for an instruction fetch; else a reference of the instruction `word` -/
  fetch : Bool
  word  : Word
  req   : BusReq
  /-- the cache line being refilled: whether of the instruction cache, and its index -/
  line  : Option (Bool × Nat)
  /-- the model's own: the step the open values of the instruction are drawn from -/
  free  : Nat
  deriving DecidableEq, Repr

/-- What an instruction wrote too late for the next ones to see safely (70_reset_and_hazards section 4),
with the value from before. -/
inductive Late where
  /-- R852: destination of a coprocessor move to a general register. -/
  | gpr (r : Reg) (old : DWord)
  /-- R852: destination of MTC1 or DMTC1. -/
  | fgr (r : Reg) (old : DWord)
  /-- R852: CTC1. -/
  | fcr31 (old : Word)
  /-- R854: FCR31.C changed by a compare or by CTC1. -/
  | fcc (old : Bool)
  /-- R858, R860: a CP0 register. -/
  | cp0 (r : Reg) (old : DWord)
  /-- R860: the timer latch cleared by a write of Compare. -/
  | timer (old : Bool)
  /-- R860: a TLB entry, for instruction fetch. -/
  | tlb (i : Nat) (old : TlbEntry)
  /-- R864: an instruction cache line, for instruction fetch. -/
  | icache (i : Nat) (old : ILine)
  /-- R864, D44: `n` bytes of memory from `pa`, for instruction fetch; `old`: the 32-byte line they lie in. -/
  | code (pa : PAddr) (n : Nat) (old : LineData)
  /-- R866: the destination of MFHI (`hi`) or MFLO. -/
  | hiLoRead (hi : Bool) (r : Reg)
  /-- R860: a TLBP. -/
  | tlbp
  deriving DecidableEq, Repr

/-- A late write and how many instructions have started since (1 for the next instruction). -/
structure Hazard where
  age  : Nat
  what : Late
  deriving DecidableEq, Repr

/-- The reset pins of one step. -/
inductive ResetInput where
  | none
  /-- Reset* asserted and released (70_reset_and_hazards R832). -/
  | soft
  /-- ColdReset* with the boot-mode stream, bit 0 least significant (R830, R836). -/
  | cold (stream : BitVec 256)
  deriving DecidableEq, Repr

/-- What the external agent puts on the system interface (61_system_interface R783, R794 to R799), or a write by
another bus master (20_memory R168). -/
inductive ExtRequest where
  /-- An external request: an address cycle with a command, and the data cycles after it. -/
  | command (cmd : BitVec 9) (addr : PAddr) (cycles : List DataCycle)
  /-- A read response: data cycles. -/
  | response (cycles : List DataCycle)
  | dma (addr : PAddr) (value : Byte)
  deriving DecidableEq, Repr

/-- What the outside does at one step (00_scope R11, 92_eei_decisions D2). Levels are 1 for asserted. -/
structure Input where
  intPins : BitVec 6
  nmi     : Bool
  extRqst : Bool
  reset   : ResetInput
  requests : List ExtRequest
  /-- what other bus masters write to memory before the first, second, ... request of the step
  (61_system_interface R810 (e)) -/
  between : List (List (PAddr × Byte))
  deriving DecidableEq, Repr

/-- The CP0 registers (10_state R42). PRId is computed; Cause holds no IP7 to IP2, which follow their
sources (11_cp0_registers R94). -/
structure Cp0 where
  index : Word
  random : BitVec 6
  entryLo0 : DWord
  entryLo1 : DWord
  context : DWord
  pageMask : Word
  wired : Word
  badVAddr : DWord
  count : Word
  entryHi : DWord
  compare : Word
  status : Word
  cause : Word
  epc : DWord
  config : Word
  llAddr : Word
  xContext : DWord
  ecc : Word
  cacheErr : Word
  tagLo : Word
  tagHi : Word
  errorEpc : DWord
  deriving DecidableEq, Repr

/-- The machine. INVENTORY.md '## State' gives each field's rule and reset value. -/
structure State where
  gpr : Vector DWord 32
  hi : DWord
  lo : DWord
  pc : DWord
  pending : Option Pending
  llbit : Bool
  linkPa : PAddr
  hiloFresh : Bool
  cp0 : Cp0
  timerInt : Bool
  countPhase : Nat
  tlb : Vector TlbEntry 48
  fgr : Vector DWord 32
  fcr31 : Word
  /-- sparse, strictly rising indices `way * 256 + set`; an unlisted line is all zero -/
  icache : List (Nat × ILine)
  dcache : List (Nat × DLine)
  wbuf : List WEntry
  /-- sparse, strictly rising addresses; an unlisted byte is 0 -/
  mem : List Host.Cell
  intPins : BitVec 6
  nmiPin : Bool
  intReg : BitVec 7
  nmiPrev : Bool
  /-- a nonmaskable interrupt that has come and has not been taken -/
  nmiLatch : Bool
  standby : Bool
  /-- `SysIfState`: slave, else master (61_system_interface R767) -/
  slave : Bool
  /-- a read the external agent has not answered (U74) -/
  busWait : Option BusWait
  /-- the response to that read, until the instruction takes it -/
  busReply : Option (List DataCycle)
  hist : List Hazard
  cfg : Params
  inputs : List Input
  /-- what is left of this step's `Input.between` -/
  dma : List (List (PAddr × Byte))
  /-- latest first -/
  bus : List BusReq
  /-- the model's own: one value per step, the argument of the open values -/
  free : Nat
  /-- the model's own: the last instruction ended by entering an exception -/
  exc : Bool
  deriving DecidableEq, Repr

/-- The reasons the machine stops for good. -/
inductive Fault where
  /-- Raised when a buffered write must leave and the external agent never accepts it: "a platform
  fault, not an exception" (20_memory R162). Safe: the processor makes no progress either. -/
  | writeNotAccepted
  deriving DecidableEq, Repr

/-- The reasons the model refuses a step. -/
inductive Refusal where
  /-- An instruction without a meaning yet; raised by Dispatch alone. Safe. -/
  | notModelled (mnemonic : String)
  /-- Raised by CACHE with an operation the spec calls undefined (22_caches R257 (a), U34). Safe. -/
  | cacheOpUndefined
  /-- Raised by CACHE on an uncached address (22_caches R257 (b), U35). Safe. -/
  | cacheUncached
  /-- Raised by a word with a nonzero unused field when IGNORE_UNUSED_FIELDS is false (D22). Safe. -/
  | unusedField
  /-- Raised by a cold reset whose boot stream holds a reserved value (70_reset_and_hazards R836, U3). Safe. -/
  | reservedBootStream
  /-- Raised by an external request with a reserved command or not for a word, and by a response that is malformed
  or finds no read pending (61_system_interface R802, U71, U72). Safe. -/
  | undefinedExternalRequest
  deriving DecidableEq, Repr

/-- A TLB half of zeros. -/
def TlbHalf.zero : TlbHalf := { pfn := 0, c := 0, d := false, v := false }

/-- A TLB entry of zeros: what the model takes every entry to hold at reset (DESIGN CHOICE, log 1). -/
def TlbEntry.zero : TlbEntry :=
  { mask := 0, r := 0, vpn2 := 0, g := false, asid := 0, lo0 := TlbHalf.zero, lo1 := TlbHalf.zero }

/-- An invalid instruction line of zeros: what an unlisted line is (DESIGN CHOICE, log 1). -/
def ILine.zero : ILine :=
  { tag := 0, valid := false, par := 0, tagPar := false, fifo := false, reserved := false, data := 0 }

/-- An invalid data line of zeros: what an unlisted line is (DESIGN CHOICE, log 1). -/
def DLine.zero : DLine :=
  { tag := 0, state := 0, w := false, par := 0, tagPar := false, wPar := false, fifo := false, data := 0 }

/-- The parameters at `State.reset`: the boot stream of 70_reset_and_hazards R839, the defaults of
93_implementation_defined Part 3, but IGNORE_UNUSED_FIELDS true (DESIGN CHOICE, log 4). -/
def Params.reset : Params :=
  { bigEndian := true, sysCkRatio := 1, xmitDatPat := 0, nonblockWrite := 0, tmrIntEn := false,
    pridRev := 0, fcr0Rev := 0, qnanS := 0x7FBFFFFF#32, qnanD := 0x7FF7FFFFFFFFFFFF#64,
    ignoreUnusedFields := true, fixedConvertInvalid := false, moveDelayInterlocked := false,
    countNum := 1, countDen := 2, tagLo := { pState := 6, fifo := 1, par := 0 }, physMap := [] }

/-- The CP0 registers after Reset (10_state R60). Random 47, Wired 0, Status.ERL and BEV, and Config but
for K0 are the spec's; the rest is DESIGN CHOICE, log 1. -/
def Cp0.reset : Cp0 :=
  { index := 0, random := 47, entryLo0 := 0, entryLo1 := 0, context := 0, pageMask := 0, wired := 0,
    badVAddr := 0, count := 0, entryHi := 0, compare := 0, status := 0x00400004#32, cause := 0, epc := 0,
    config := 0x1000E4B2#32, llAddr := 0, xContext := 0, ecc := 0, cacheErr := 0, tagLo := 0, tagHi := 0,
    errorEpc := 0 }

/-- The machine after Reset (10_state R60, 70_reset_and_hazards R830); INVENTORY.md says which values are
the spec's and which are the model's. -/
def State.reset : State :=
  { gpr := Vector.replicate 32 0, hi := 0, lo := 0, pc := 0xFFFFFFFFBFC00000#64, pending := none,
    llbit := false, linkPa := 0, hiloFresh := false, cp0 := Cp0.reset, timerInt := false, countPhase := 0,
    tlb := Vector.replicate 48 TlbEntry.zero, fgr := Vector.replicate 32 0, fcr31 := 0,
    icache := [], dcache := [], wbuf := [], mem := [], intPins := 0, nmiPin := false, intReg := 0,
    nmiPrev := false, nmiLatch := false, standby := false, slave := false, busWait := none, busReply := none,
    hist := [], cfg := Params.reset, inputs := [], dma := [], bus := [], free := 0, exc := false }

end Sys2Proof.Machine
end

