-- ==== Sys2Proof/Machine/Ops.lean ====
section
/-! DEFINITION. The named operations the meanings share: bit helpers, the sparse maps that hold memory and
the caches, open values and hazard views, the register files, the operating mode, taking an exception and
returning from one, and the end of an instruction. -/
namespace Sys2Proof.Machine

/-- What an instruction or a step answers. -/
abbrev Result := Host.Outcome State Fault Refusal

/-! ### Bits -/

/-- Sign extension to 64 bits (00_scope R15). -/
def sext64 {n : Nat} (v : BitVec n) : DWord := v.signExtend 64

/-- Zero extension to 64 bits (00_scope R15). -/
def zext64 {n : Nat} (v : BitVec n) : DWord := v.setWidth 64

/-- The low 32 bits of a doubleword. -/
def low32 (v : DWord) : Word := v.setWidth 32

/-- The high 32 bits of a doubleword. -/
def high32 (v : DWord) : Word := v.extractLsb' 32 32

/-- Whether bits 63:32 all equal bit 31 (10_state R33). -/
def isSext32 (v : DWord) : Bool := v == sext64 (low32 v)

/-- Even parity bit: the exclusive or of all bits (22_caches R237). -/
def parity {n : Nat} (v : BitVec n) : Bool :=
  (List.range n).foldl (fun p i => p ^^ v.getLsbD i) false

/-- A bit as a 1-bit vector. -/
def bit (b : Bool) : BitVec 1 := BitVec.ofBool b

/-- `v` with bit `i` set to `b`. -/
def putBit {n : Nat} (v : BitVec n) (i : Nat) (b : Bool) : BitVec n :=
  if b then v ||| BitVec.twoPow n i else v &&& ~~~ BitVec.twoPow n i

/-- Byte lane `j` of a doubleword, bits `8j+7 .. 8j` (20_memory R143). -/
def lane (v : DWord) (j : Nat) : Byte := v.extractLsb' (8 * j) 8

/-- The doubleword whose lane `j` is `f j`. -/
def ofLanes (f : Nat → Byte) : DWord :=
  f 7 ++ f 6 ++ f 5 ++ f 4 ++ f 3 ++ f 2 ++ f 1 ++ f 0

/-- The lane of the byte at offset `k` of an aligned doubleword: `7 - k` big-endian, `k` little-endian
(20_memory R143); its own inverse. -/
def laneOf (bigEndian : Bool) (k : Nat) : Nat := if bigEndian then 7 - k else k

/-! ### Sparse maps: memory and the caches

A sparse map is a list of (key, value) pairs with strictly rising keys and no value equal to the
default, so that equal maps are equal lists. -/

/-- The value at `k`; an unlisted key has the default. -/
def sparseGet {α : Type} (dflt : α) : List (Nat × α) → Nat → α
  | [], _ => dflt
  | (k', v) :: t, k => if k' = k then v else sparseGet dflt t k

/-- The map with `v` at `k`; writing the default removes the entry. -/
def sparsePut {α : Type} [DecidableEq α] (dflt : α) : List (Nat × α) → Nat → α → List (Nat × α)
  | [], k, v => if v = dflt then [] else [(k, v)]
  | (k', v') :: t, k, v =>
    if k < k' then (if v = dflt then (k', v') :: t else (k, v) :: (k', v') :: t)
    else if k = k' then (if v = dflt then t else (k, v) :: t)
    else (k', v') :: sparsePut dflt t k v

/-- The canonical form: keys strictly rising above `lo`, no default value. -/
def sparseWfFrom {α : Type} [DecidableEq α] (dflt : α) : Option Nat → List (Nat × α) → Bool
  | _, [] => true
  | lo, (k, v) :: t =>
    (match lo with | none => true | some l => decide (l < k)) && decide (v ≠ dflt)
      && sparseWfFrom dflt (some k) t

/-- The canonical form of a sparse map. -/
def sparseWf {α : Type} [DecidableEq α] (dflt : α) (m : List (Nat × α)) : Bool :=
  sparseWfFrom dflt none m

/-- What a byte of memory that nothing has written reads as: 0 (DESIGN CHOICE, log 3; unsafe). -/
def Memory.unwritten : Byte := 0

/-- The byte of memory at a physical address. -/
def Memory.read (m : List Host.Cell) (a : Nat) : Byte := sparseGet Memory.unwritten m a

/-- Memory with the byte at a physical address replaced. -/
def Memory.write (m : List Host.Cell) (a : Nat) (v : Byte) : List Host.Cell :=
  sparsePut Memory.unwritten m a v

/-- The canonical form of memory. -/
def Memory.wf (m : List Host.Cell) : Bool := sparseWf Memory.unwritten m

/-! ### Open values -/

/-- The open value of this step at a site (93_implementation_defined `any value`). -/
def State.freeWord (s : State) (site : FreeSite) : DWord := Config.freeWord site s.free

/-- A draw between two outcomes (93_implementation_defined `draw`). -/
def State.pick (s : State) (site : FreeSite) : Bool := Config.freePick site s.free

/-! ### Hazards (70_reset_and_hazards section 4) -/

/-- `s` with a late write recorded; age 0 until the next instruction starts. -/
def State.note (s : State) (l : Late) : State := { s with hist := { age := 0, what := l } :: s.hist }

/-- The longest window of R858 to R864. -/
def hazardWindow : Nat := 3

/-- Whether ERET ends the window of a late write: one of a CP0 register, of the timer latch or of a TLB entry
(70_reset_and_hazards R862, R875 (b); DEDUCED, log 10). -/
def Late.endedByEret : Late → Bool
  | .cp0 _ _ | .timer _ | .tlb _ _ => true
  | .gpr _ _ | .fgr _ _ | .fcr31 _ | .fcc _ | .icache _ _ | .code _ _ _ | .hiLoRead _ _ | .tlbp => false

/-- Whether a late write is one of memory that may hold code. -/
def Late.isCode : Late → Bool
  | .code _ _ _ => true
  | _ => false

/-- A new instruction starts: every late write is one instruction older; those past the longest window
are forgotten. -/
def ageHazards (h : List Hazard) : List Hazard :=
  (h.map fun e => { e with age := e.age + 1 }).filter fun e => e.age ≤ hazardWindow

/-- Whether a late write of age `a` lies inside a window of `n` instructions. -/
def inWindow (n a : Nat) : Bool := 1 ≤ a && a ≤ n

/-- How many instructions after a write a reader may still see the old value (R858, R860; 3 where Table E.1
has no entry, D43). -/
def readerWindow : Reader → Nat
  | .move => 1
  | .eret => 1
  | .usable => 2
  | .ops64 => 3
  | .data => 1
  | .dataWidth => 3
  | .fetch => 3
  | .fetchWidth => 3
  | .vector => 3
  | .interrupt => 1
  | .fpu => 3
  | .parityEnable => 3
  | .forcedParity => 3

/-- CP0 register `r` with stored value `cur` as a reader sees it: inside its window a draw between old and
new (R858, R860). -/
def State.cp0Seen (s : State) (r : Reg) (who : Reader) (cur : DWord) : DWord :=
  s.hist.foldl (init := cur) fun v h =>
    match h.what with
    | .cp0 r' old =>
      if r' = r && inWindow (readerWindow who) h.age && s.pick (.hazardCp0 r who h.age) then old else v
    | _ => v

/-! ### General registers -/

/-- GPR[r] as held; r0 reads 0 (10_state R31). -/
def State.gprHeld (s : State) (r : Reg) : DWord :=
  if r = 0 then 0 else s.gpr[r.toNat]'(r.isLt)

/-- GPR[r] as an instruction reads it: right after a coprocessor move to `r` it is a draw between the old
and the new value (70_reset_and_hazards R852). -/
def State.readGpr (s : State) (r : Reg) : DWord :=
  s.hist.foldl (init := s.gprHeld r) fun v h =>
    match h.what with
    | .gpr r' old => if r' = r && r' != 0 && inWindow 1 h.age && s.pick (.hazardGpr r) then old else v
    | _ => v

/-- GPR[r] := v; a write to r0 is discarded (10_state R31). -/
def State.writeGpr (s : State) (r : Reg) (v : DWord) : State :=
  if r = 0 then s else
    { s with gpr := s.gpr.set r.toNat v r.isLt }

/-- GPR[r] := v by a coprocessor move: the next instruction may still see the old value
(70_reset_and_hazards R852), unless MOVE_DELAY_INTERLOCKED. -/
def State.writeGprLate (s : State) (r : Reg) (v : DWord) : State :=
  let s' := s.writeGpr r v
  if s.cfg.moveDelayInterlocked then s' else s'.note (.gpr r (s.gprHeld r))

/-! ### Status and the operating mode (60_exceptions R750 to R753) -/

/-- The three modes. -/
inductive Mode where
  | kernel | supervisor | user
  deriving DecidableEq, Repr

def stIE (st : Word) : Bool := st.getLsbD 0
def stEXL (st : Word) : Bool := st.getLsbD 1
def stERL (st : Word) : Bool := st.getLsbD 2
def stKSU (st : Word) : BitVec 2 := st.extractLsb' 3 2
def stUX (st : Word) : Bool := st.getLsbD 5
def stSX (st : Word) : Bool := st.getLsbD 6
def stKX (st : Word) : Bool := st.getLsbD 7
def stIM (st : Word) : BitVec 8 := st.extractLsb' 8 8
def stDE (st : Word) : Bool := st.getLsbD 16
def stCE (st : Word) : Bool := st.getLsbD 17
def stBEV (st : Word) : Bool := st.getLsbD 22
def stRE (st : Word) : Bool := st.getLsbD 25
def stFR (st : Word) : Bool := st.getLsbD 26
/-- Status.CUz (11_cp0_registers R90). -/
def stCU (st : Word) (z : Nat) : Bool := st.getLsbD (28 + z)

/-- The mode a Status word selects; none for KSU = 11, which is no mode (93_implementation_defined U13). -/
def modeOf (st : Word) : Option Mode :=
  if stKSU st = 0 || stEXL st || stERL st then some .kernel
  else if stKSU st = 1 then some .supervisor
  else if stKSU st = 2 then some .user
  else none

/-- The 64-bit enable of a mode: KX, SX or UX of `x`. -/
def extendedOf (m : Option Mode) (x : Word) : Bool :=
  match m with
  | some .kernel => stKX x
  | some .supervisor => stSX x
  | some .user => stUX x
  | none => false

/-- Status as a reader sees it. -/
def State.statusSeen (s : State) (who : Reader) : Word := low32 (s.cp0Seen 12 who (zext64 s.cp0.status))

/-- `Ops64Enabled` (60_exceptions R753), with the 3-instruction window of D43. -/
def State.ops64Enabled (s : State) : Bool :=
  let st := s.statusSeen .ops64
  match modeOf st with
  | some .kernel => true
  | m => extendedOf m st

/-- `usable(z)` (60_exceptions R720), with the 2-instruction window of R858. -/
def State.copUsable (s : State) (z : Nat) : Bool :=
  let st := s.statusSeen .usable
  if z = 0 then modeOf st = some .kernel || stCU st 0 else stCU st z

/-! ### CP0 registers (11_cp0_registers) -/

/-- IP7 to IP2, following their sources (60_exceptions R730). -/
def State.pendingLines (s : State) : BitVec 6 :=
  let ext := s.intPins ||| s.intReg.setWidth 6
  let ip7 := if s.cfg.tmrIntEn then ext.getLsbD 5 else s.timerInt
  putBit ext 5 ip7

/-- IP7 to IP2 in their places in Cause. -/
def State.causeLines (s : State) : Word := (s.pendingLines.setWidth 32) <<< 10

/-- Cause as it reads: the stored fields and the live IP7 to IP2 (11_cp0_registers R94). -/
def State.cause (s : State) : Word := s.cp0.cause ||| s.causeLines

/-- PRId (11_cp0_registers R98). -/
def State.prId (s : State) : Word := 0x2100#32 ||| s.cfg.pridRev.setWidth 32

/-- The 64-bit registers (11_cp0_registers R118). -/
def cp0Wide (r : Reg) : Bool :=
  r = 2 || r = 3 || r = 4 || r = 8 || r = 10 || r = 14 || r = 20 || r = 30

/-- The reserved numbers (11_cp0_registers R71). -/
def cp0Reserved (r : Reg) : Bool :=
  r = 7 || r = 18 || r = 19 || r = 21 || r = 22 || r = 23 || r = 24 || r = 25 || r = 31

/-- The contents of CP0 register `r`, zero-extended to 64 bits; a reserved number has the open value of D6. -/
def State.cp0Get (s : State) (r : Reg) : DWord :=
  let c := s.cp0
  match r.toNat with
  | 0 => zext64 c.index
  | 1 => zext64 c.random
  | 2 => c.entryLo0
  | 3 => c.entryLo1
  | 4 => c.context
  | 5 => zext64 c.pageMask
  | 6 => zext64 c.wired
  | 8 => c.badVAddr
  | 9 => zext64 c.count
  | 10 => c.entryHi
  | 11 => zext64 c.compare
  | 12 => zext64 c.status
  | 13 => zext64 s.cause
  | 14 => c.epc
  | 15 => zext64 s.prId
  | 16 => zext64 c.config
  | 17 => zext64 c.llAddr
  | 20 => c.xContext
  | 26 => zext64 c.ecc
  | 27 => zext64 c.cacheErr
  | 28 => zext64 c.tagLo
  | 29 => zext64 c.tagHi
  | 30 => c.errorEpc
  | _ => s.freeWord .cp0Reserved

/-- The stored bits of each register (11_cp0_registers R72 to R116, R119). -/
def indexMask : Word := 0x8000003F#32
def entryLoMask : DWord := 0x3FFFFFFF#64
def pageMaskMask : Word := 0x01FFE000#32
def wiredMask : Word := 0x3F#32
def entryHiMask : DWord := 0xC00000FFFFFFE0FF#64
def contextMask : DWord := 0xFFFFFFFFFF800000#64
def xContextMask : DWord := 0xFFFFFFFE00000000#64
def statusMask : Word := 0xF657FFFF#32
def causeMask : Word := 0x300#32
def configMask : Word := 0x7#32
def eccMask : Word := 0xFF#32

/-- `old` with the bits of `mask` taken from `new`. -/
def mergeMask {n : Nat} (mask old new : BitVec n) : BitVec n := (old &&& ~~~ mask) ||| (new &&& mask)

/-- CP0 register `r` := v, through its writable bits (11_cp0_registers R119, R120) and with its side
effects: Compare clears the timer interrupt (R87), Wired sets Random (R80), Count is compared (D38). -/
def State.cp0Set (s : State) (r : Reg) (v : DWord) : State :=
  let c := s.cp0
  let w := low32 v
  match r.toNat with
  | 0 => { s with cp0 := { c with index := w &&& indexMask } }
  | 2 => { s with cp0 := { c with entryLo0 := v &&& entryLoMask } }
  | 3 => { s with cp0 := { c with entryLo1 := v &&& entryLoMask } }
  | 4 => { s with cp0 := { c with context := mergeMask contextMask c.context v } }
  | 5 => { s with cp0 := { c with pageMask := w &&& pageMaskMask } }
  | 6 => { s with cp0 := { c with wired := w &&& wiredMask, random := 47 } }
  | 9 => { s with cp0 := { c with count := w }, timerInt := s.timerInt || w == c.compare }
  | 10 => { s with cp0 := { c with entryHi := v &&& entryHiMask } }
  | 11 => { s with cp0 := { c with compare := w }, timerInt := false }
  | 12 => { s with cp0 := { c with status := w &&& statusMask } }
  | 13 => { s with cp0 := { c with cause := mergeMask causeMask c.cause w } }
  | 14 => { s with cp0 := { c with epc := v } }
  | 16 => { s with cp0 := { c with config := mergeMask configMask c.config w } }
  | 17 => { s with cp0 := { c with llAddr := w } }
  | 20 => { s with cp0 := { c with xContext := mergeMask xContextMask c.xContext v } }
  | 26 => { s with cp0 := { c with ecc := w &&& eccMask } }
  | 28 => { s with cp0 := { c with tagLo := w } }
  | 29 => { s with cp0 := { c with tagHi := w } }
  | 30 => { s with cp0 := { c with errorEpc := v } }
  | _ => s

/-- The timer latch as a reader sees it: right after a write of Compare a draw between old and new
(70_reset_and_hazards R860, 60_exceptions R747). -/
def State.timerSeen (s : State) (who : Reader) : Bool :=
  s.hist.foldl (init := s.timerInt) fun v h =>
    match h.what with
    | .timer old => if inWindow 1 h.age && s.pick (.hazardTimer who) then old else v
    | _ => v

/-- The part of CP0 register `r` that an instruction can have written: all of it, but for the live bits of Cause. -/
def State.cp0Stored (s : State) (r : Reg) : DWord := if r = 13 then zext64 s.cp0.cause else s.cp0Get r

/-- CP0 register `r` as MFC0 and the TLB instructions see it: window 1 (R860). IP7 to IP2 of Cause follow their sources
at once (11_cp0_registers R94), but for IP7 after a write of Compare. -/
def State.cp0Read (s : State) (r : Reg) : DWord :=
  let v := s.cp0Seen r .move (s.cp0Stored r)
  if r = 13 then v ||| zext64 { s with timerInt := s.timerSeen .move }.causeLines else v

/-- Random steps once for an instruction that completes (11_cp0_registers R74, D13). -/
def State.stepRandom (s : State) : State :=
  let c := s.cp0
  let next : BitVec 6 :=
    if c.wired.toNat > 47 then (s.freeWord .randomRange).setWidth 6
    else if c.random.setWidth 32 = c.wired then 47
    else c.random - 1
  { s with cp0 := { c with random := next } }

/-- The late writes an MTC0 to `r` leaves (70_reset_and_hazards R856 to R860). The write of Wired sets Random, whose
old value is the one after the instruction's own step (D13). An ignored write of Random changes nothing
(11_cp0_registers R120) and leaves none, so that its step is seen at once (DESIGN CHOICE, log 10). -/
def State.noteCp0 (s old : State) (r : Reg) : State :=
  let s1 := if r = 1 then s else s.note (.cp0 r (old.cp0Stored r))
  if r = 11 then s1.note (.timer old.timerInt)
  else if r = 6 then s1.note (.cp0 1 (old.stepRandom.cp0Get 1))
  else s1

/-! ### Results with exceptions -/

/-- A value and the state it leaves, or the end of the instruction: an exception already taken, a stop,
or a wait for the bus. -/
inductive Res (α : Type) where
  | ok (a : α) (s : State)
  | stop (o : Result)

/-- Go on with a value, or end as the first part ended. -/
def Res.bind {α β : Type} (r : Res α) (f : α → State → Res β) : Res β :=
  match r with
  | .ok a s => f a s
  | .stop o => .stop o

/-- Finish the instruction from a value. -/
def Res.finish {α : Type} (r : Res α) (f : α → State → Result) : Result :=
  match r with
  | .ok a s => f a s
  | .stop o => o

/-! ### Taking an exception (60_exceptions R690) -/

/-- The exceptions of the general process (60_exceptions R682). -/
inductive Exc where
  | interrupt
  | tlbModified (va : DWord)
  | tlbRefill (va : DWord) (store : Bool)
  | tlbInvalid (va : DWord) (store : Bool)
  | addressError (va : DWord) (store : Bool)
  | busError (fetch : Bool)
  | sysCall
  | breakpoint
  | reservedInstruction
  | coprocessorUnusable (unit : BitVec 2)
  | overflow
  | trap
  | floatingPoint
  deriving DecidableEq, Repr

/-- Cause.ExcCode (11_cp0_registers R95). -/
def Exc.code : Exc → BitVec 5
  | .interrupt => 0
  | .tlbModified _ => 1
  | .tlbRefill _ store => if store then 3 else 2
  | .tlbInvalid _ store => if store then 3 else 2
  | .addressError _ store => if store then 5 else 4
  | .busError fetch => if fetch then 6 else 7
  | .sysCall => 8
  | .breakpoint => 9
  | .reservedInstruction => 10
  | .coprocessorUnusable _ => 11
  | .overflow => 12
  | .trap => 13
  | .floatingPoint => 15

/-- Cause.CE: the unit of a Coprocessor Unusable exception, else 0 (60_exceptions R691, D36). -/
def Exc.unit : Exc → BitVec 2
  | .coprocessorUnusable z => z
  | _ => 0

/-- Whether the 64-bit addressing bit of the region of `va` is set (21_mmu_tlb R212). -/
def regionExtended (st : Word) (va : DWord) : Bool :=
  let top := va.extractLsb' 62 2
  if top = 0 then stUX st
  else if top = 1 || va.extractLsb' 29 35 = 0x7FFFFFFFE#35 then stSX st
  else stKX st

/-- The vector offset (60_exceptions R692, R693). -/
def Exc.offset (e : Exc) (exlBefore : Bool) (st : Word) : DWord :=
  match e with
  | .tlbRefill va _ =>
    if exlBefore then 0x180 else if regionExtended st va then 0x080 else 0x000
  | _ => 0x180

/-- The vector base (60_exceptions R692). -/
def vectorBase (st : Word) : DWord :=
  if stBEV st then 0xFFFFFFFFBFC00200#64 else 0xFFFFFFFF80000000#64

/-- Context with its BadVPN2 field replaced. -/
def putBadVpn2 (context : DWord) (vpn : BitVec 19) : DWord :=
  (context &&& contextMask) ||| (zext64 vpn <<< 4)

/-- XContext with its R and BadVPN2 fields replaced. -/
def putXBadVpn2 (xContext : DWord) (r : BitVec 2) (vpn : BitVec 27) : DWord :=
  (xContext &&& xContextMask) ||| (zext64 r <<< 31) ||| (zext64 vpn <<< 4)

/-- EntryHi with its R and VPN2 fields replaced, the ASID kept. -/
def putVpn2 (entryHi : DWord) (r : BitVec 2) (vpn : BitVec 27) : DWord :=
  (entryHi &&& 0xFF#64) ||| (zext64 r <<< 62) ||| (zext64 vpn <<< 13)

/-- The address registers an exception of a reference to `va` writes: BadVAddr unless EXL was 1, the VPN and R
fields of Context, XContext and EntryHi, each from the value given for it (VPN in bits 39:13, R in bits 63:62), and
undefined EntryLo (60_exceptions R700, R704). -/
def State.faultRegs (s : State) (va forContext forXContext forEntryHi : DWord) : State :=
  let c := s.cp0
  { s with cp0 := { c with
      badVAddr := if stEXL c.status then c.badVAddr else va
      context := putBadVpn2 c.context (forContext.extractLsb' 13 19)
      xContext := putXBadVpn2 c.xContext (forXContext.extractLsb' 62 2) (forXContext.extractLsb' 13 27)
      entryHi := putVpn2 c.entryHi (forEntryHi.extractLsb' 62 2) (forEntryHi.extractLsb' 13 27)
      entryLo0 := s.freeWord (.faultReg 2) &&& entryLoMask
      entryLo1 := s.freeWord (.faultReg 3) &&& entryLoMask } }

/-- The exception-specific registers, written before the general process (60_exceptions R700 to R704). After
an Address Error the fields of Context, XContext and EntryHi are undefined, each by itself (R700, U18). -/
def State.excRegs (s : State) : Exc → State
  | .tlbModified va => s.faultRegs va va va va
  | .tlbRefill va _ => s.faultRegs va va va va
  | .tlbInvalid va _ => s.faultRegs va va va va
  | .addressError va _ =>
    s.faultRegs va (s.freeWord (.faultReg 4)) (s.freeWord (.faultReg 20)) (s.freeWord (.faultReg 10))
  | _ => s

/-- The restart address: the instruction, or its branch if it is in a delay slot (60_exceptions R690). -/
def State.restartPc (s : State) : DWord :=
  match s.pending with
  | some p => p.branchPc
  | none => s.pc

/-- The general exception process (60_exceptions R690), for an exception of the instruction at pc (for an
interrupt, taken in its place). Every earlier write has completed, so no hazard is left
(70_reset_and_hazards R860, last row). -/
def State.raise (s : State) (e : Exc) : State :=
  let exl := stEXL s.cp0.status
  let seen := s.statusSeen .vector
  let s1 := s.excRegs e
  let c := s1.cp0
  { s1 with
    cp0 := { c with
      cause := (bit s.pending.isSome ++ (0 : BitVec 1) ++ e.unit ++ (0 : BitVec 12)
        ++ c.cause.extractLsb' 8 8 ++ (0 : BitVec 1) ++ e.code ++ (0 : BitVec 2))
      epc := if exl then c.epc else s.restartPc
      status := c.status ||| 2#32 }
    pending := none
    pc := vectorBase seen + e.offset exl seen
    hist := []
    exc := true }

/-- An exception as the end of an instruction. -/
def State.except (s : State) (e : Exc) : Result := .next (s.raise e)

/-- What the CacheErr fields of one parity error say (11_cp0_registers R110). -/
structure ParityError where
  /-- data reference, else instruction -/
  er : Bool
  /-- in a data field -/
  ed : Bool
  /-- in a tag field -/
  et : Bool
  /-- on the SysAD bus -/
  ee : Bool
  va : DWord
  pa : PAddr
  deriving DecidableEq, Repr

/-- The CacheErr register for a parity error; `eb`: a data error came in addition to this instruction error
(11_cp0_registers R110, 60_exceptions R714). -/
def ParityError.cacheErr (p : ParityError) (eb : Bool) : Word :=
  bit p.er ++ (0 : BitVec 1) ++ bit p.ed ++ bit p.et ++ (0 : BitVec 1) ++ bit p.ee ++ bit eb
    ++ (0 : BitVec 3) ++ p.pa.extractLsb' 3 19 ++ (0 : BitVec 1) ++ p.va.extractLsb' 12 2

/-- The Cache Error exception (60_exceptions R713). Whether a data error came in addition to an instruction's error is
open: the manual gives no more precise condition for EB (R714; DESIGN CHOICE, log 20). -/
def State.raiseCacheError (s : State) (p : ParityError) : State :=
  let seen := s.statusSeen .vector
  { s with
    cp0 := { s.cp0 with
      errorEpc := s.restartPc
      cacheErr := p.cacheErr (!p.er && s.pick .cacheErrEb)
      status := s.cp0.status ||| 4#32 }
    pending := none
    pc := if stBEV seen then 0xFFFFFFFFBFC00300#64 else 0xFFFFFFFFA0000100#64
    hist := []
    exc := true }

/-- The state after a return from exception (60_exceptions R694, 45_cp0_system R514): ErrorEPC and ERL if ERL is 1,
else EPC and EXL; LLbit cleared. The next fetch is in the restored mode, and ERET with its pipeline refill supplies
the distance of every CP0 register and TLB entry written before it (70_reset_and_hazards R862, R875 (b)); the windows
that count executed instructions go on: HI and LO (R866), instruction lines and code in memory (R864). -/
def State.eret (s : State) : State :=
  let st := s.statusSeen .eret
  let s1 := if stERL st then
      { s with pc := s.cp0Seen 30 .eret s.cp0.errorEpc, cp0 := { s.cp0 with status := s.cp0.status &&& ~~~ 4#32 } }
    else
      { s with pc := s.cp0Seen 14 .eret s.cp0.epc, cp0 := { s.cp0 with status := s.cp0.status &&& ~~~ 2#32 } }
  { s1 with llbit := false, pending := none, hist := s.hist.filter fun h => !h.what.endedByEret }

/-! ### The end of an instruction -/

/-- The instruction completes and control goes on: to the branch target if it was a delay slot, else to
pc + 4 (10_state R35, R38). -/
def State.advance (s : State) : State :=
  match s.pending with
  | some p => { s with pc := p.target, pending := none }
  | none => { s with pc := s.pc + 4 }

/-- The end of an instruction that completes. -/
def State.retire (s : State) : State := s.stepRandom.advance

/-- The end of an instruction as an outcome. -/
def State.done (s : State) : Result := .next s.retire

end Sys2Proof.Machine
end

