-- ==== Sys2Proof/Machine/SysInterface.lean ====
section
/-! DEFINITION. The syntax of the system interface (61_system_interface sections 6 and 7): byte lanes and check
bits, commands and data identifiers, the data cycles of writes and of read responses, and the order of the
doublewords of a block. -/
namespace Sys2Proof.Machine

/-! ### Doublewords and lines -/

/-- A doubleword between its lanes and its bytes in memory order; its own inverse (R791, 20_memory R143). -/
def memOrder (bigEndian : Bool) (d : DWord) : DWord := ofLanes fun j => lane d (laneOf bigEndian j)

/-- Eight bits, one for each byte, between lane order and memory order; its own inverse. -/
def bitOrder (bigEndian : Bool) (v : BitVec 8) : BitVec 8 :=
  (List.range 8).foldl (fun p j => putBit p j (v.getLsbD (laneOf bigEndian j))) 0

/-- Doubleword `j` of a line, in its lanes. -/
def lineDword (bigEndian : Bool) (d : LineData) (j : Nat) : DWord := memOrder bigEndian (d.extractLsb' (64 * j) 64)

/-- The line whose doublewords are `f 0` to `f 3`. -/
def ofDwords (bigEndian : Bool) (f : Nat → DWord) : LineData :=
  memOrder bigEndian (f 3) ++ memOrder bigEndian (f 2) ++ memOrder bigEndian (f 1) ++ memOrder bigEndian (f 0)

/-- The byte at offset `k` of a line. -/
def lineByte (d : LineData) (k : Nat) : Byte := d.extractLsb' (8 * k) 8

/-! ### Parity (R788, R817) -/

/-- SysADC with good parity: bit `j` is the exclusive or of the bits of lane `j` (R817). -/
def checkBits (d : DWord) : BitVec 8 := (List.range 8).foldl (fun p j => putBit p j (parity (lane d j))) 0

/-- The parity of each byte of a line. -/
def byteParities (d : LineData) : BitVec 32 :=
  (List.range 32).foldl (fun p k => putBit p k (parity (lineByte d k))) 0

/-- The doublewords of a line with bad parity in a byte. -/
def lineErrs (d : LineData) (par : BitVec 32) : BitVec 4 :=
  (List.range 4).foldl (fun e j => putBit e j ((par ^^^ byteParities d).extractLsb' (8 * j) 8 != 0)) 0

/-! ### Data identifiers (R786 Tables 12.14 and 12.15; SysCmd(8) is 1, the indications are active low) -/

/-- SysCmd(7) = 0: the last data element. -/
def idLast (id : BitVec 9) : Bool := !id.getLsbD 7

/-- SysCmd(6) = 0: response data. -/
def idResponse (id : BitVec 9) : Bool := !id.getLsbD 6

/-- SysCmd(5) = 1: the data is erroneous. -/
def idErroneous (id : BitVec 9) : Bool := id.getLsbD 5

/-- SysCmd(4) = 0: check the data and check bits. -/
def idCheck (id : BitVec 9) : Bool := !id.getLsbD 4

/-- The identifier of data the processor writes; `u` is the undefined reserved bits. -/
def writeId (last bad : Bool) (u : BitVec 5) : BitVec 9 :=
  0x140 ||| (if last then 0 else 0x80) ||| (if bad then 0x20 else 0) ||| u.setWidth 9

/-- The identifier of read-response data from the agent, to be checked. -/
def readId (last bad : Bool) : BitVec 9 := 0x10F ||| (if last then 0 else 0x80) ||| (if bad then 0x20 else 0)

/-! ### Commands (R786 Tables 12.6 to 12.13; SysCmd(8) is 0) -/

/-- SysCmd(8:0) of the address cycle of a request of the processor; the answer to an external read has none, and shows
its identifier (R786). -/
def BusReq.sysCmd : BusReq → BitVec 9
  | .blockRead _ linkRetained => if linkRetained then 0x015 else 0x011
  | .read _ n => 0x018 + BitVec.ofNat 9 (n - 1)
  | .blockWrite _ retained _ => if retained then 0x055 else 0x051
  | .write _ n _ => 0x058 + BitVec.ofNat 9 (n - 1)
  | .externalReadAnswer c => c.id

/-- The bytes a request reads or writes; 8 for an answer. -/
def BusReq.size : BusReq → Nat
  | .blockRead _ _ => 32
  | .read _ n => n
  | .blockWrite _ _ _ => 32
  | .write _ n _ => n
  | .externalReadAnswer _ => 8

/-- The data cycles the processor drives after the address cycle. -/
def BusReq.cycles : BusReq → List DataCycle
  | .blockRead _ _ => []
  | .read _ _ => []
  | .blockWrite _ _ cs => cs
  | .write _ _ c => [c]
  | .externalReadAnswer c => [c]

/-- What the agent's command asks for. -/
inductive AgentCommand where
  | blockRead
  | read (bytes : Nat)
  | blockWrite
  | write (bytes : Nat)
  | null
  deriving DecidableEq, Repr

/-- The command of the agent on SysCmd(8:0); none if it is reserved, or no command. The reserved bits of a null request
are not looked at. -/
def agentCommand (cmd : BitVec 9) : Option AgentCommand :=
  let form := cmd.extractLsb' 3 2
  let bytes := (cmd.extractLsb' 0 3).toNat + 1
  let block := cmd.extractLsb' 0 2 = 1
  if cmd.getLsbD 8 then none
  else match (cmd.extractLsb' 5 3).toNat with
    | 0 => if form = 3 then some (.read bytes) else if form = 2 && block then some .blockRead else none
    | 2 => if form = 3 then some (.write bytes) else if form = 2 && block then some .blockWrite else none
    | 3 => if form = 0 then some .null else none
    | _ => none

/-! ### The order of the doublewords of a block (R790, R815) -/

/-- The doubleword of a line in data cycle `k` of a read response, `s` being the doubleword addressed. -/
def subblock (s : BitVec 2) (k : Nat) : Nat := (s ^^^ BitVec.ofNat 2 k).toNat

/-! ### Data cycles of writes (R784, R785, R787) -/

/-- The data cycle of a non-block write of `n` bytes from `pa`: the bytes in their lanes, what the other lanes carry is
undefined (R791). `unused` and `u` are the undefined values. -/
def wordCycle (bigEndian : Bool) (pa : PAddr) (n : Nat) (data unused : DWord) (u : BitVec 5) : DataCycle :=
  let o := pa.toNat % 8
  let d := ofLanes fun j =>
    if o ≤ laneOf bigEndian j ∧ laneOf bigEndian j < o + n then lane data j else lane unused j
  { id := writeId true false u, data := d, check := checkBits d }

/-- The data cycles of a block write: the doublewords in order, the last so indicated, with the cache's own parity, and
the good-data bit off where it is wrong. `u k` is what the reserved bits of cycle `k` are. -/
def lineCycles (bigEndian : Bool) (d : LineData) (par : BitVec 32) (u : Nat → BitVec 5) : List DataCycle :=
  (List.range 4).map fun k =>
    { id := writeId (k = 3) ((lineErrs d par).getLsbD k) (u k)
      data := lineDword bigEndian d k
      check := bitOrder bigEndian (par.extractLsb' (8 * k) 8) }

/-! ### Data cycles of read responses (R783, R787, R788) -/

/-- Cycle `k` of a response; a missing cycle is one of zeros. -/
def cycleAt (cs : List DataCycle) (k : Nat) : DataCycle := cs.getD k { id := 0, data := 0, check := 0 }

/-- Whether the response is erroneous: the bit of the first cycle alone is looked at (R787). -/
def respError (cs : List DataCycle) : Bool := idErroneous (cycleAt cs 0).id

/-- Whether a cycle is to be checked and has bad parity in a byte (R788). -/
def DataCycle.bad (c : DataCycle) : Bool := idCheck c.id && c.check != checkBits c.data

/-- Whether the response has bad parity: the first cycle alone is checked (R788). -/
def respBad (cs : List DataCycle) : Bool := (cycleAt cs 0).bad

/-- The parity that goes into a cache with a cycle's data: what came with it, or good parity if it is not to be checked
(R788). -/
def DataCycle.par (c : DataCycle) : BitVec 8 := if idCheck c.id then c.check else checkBits c.data

/-- The line a block read's response brings, `s` being the doubleword addressed. -/
def respLine (bigEndian : Bool) (s : BitVec 2) (cs : List DataCycle) : LineData :=
  ofDwords bigEndian fun j => (cycleAt cs (subblock s j)).data

/-- The parity of each byte of that line. -/
def respPar (bigEndian : Bool) (s : BitVec 2) (cs : List DataCycle) : BitVec 32 :=
  (List.range 32).foldl (init := 0) fun p k =>
    putBit p k ((cycleAt cs (subblock s (k / 8))).par.getLsbD (laneOf bigEndian (k % 8)))

/-- Whether the data cycles answer the request: one for a word, four for a block, each a response identifier, the last
and no other indicated as the last (R783). -/
def respFits (req : BusReq) (cs : List DataCycle) : Bool :=
  let n := match req with
    | .blockRead _ _ => 4
    | _ => 1
  cs.length == n && cs.zipIdx.all fun p =>
    p.1.id.getLsbD 8 && idResponse p.1.id && (idLast p.1.id == decide (p.2 + 1 = n))

end Sys2Proof.Machine
end

