-- ==== Sys2Proof/Machine/Bus.lean ====
section
/-! DEFINITION. Physical memory and the requests of the processor: byte order of the aligned doubleword
(20_memory R143), the write buffer (R160 to R164), read requests and their responses (61_system_interface R770 to
R791, R810). -/
namespace Sys2Proof.Machine

/-- Whether a region covers an access of `n` bytes at `pa`. -/
def Region.covers (r : Region) (pa : PAddr) (n : Nat) : Bool :=
  r.base ≤ pa.toNat && pa.toNat < r.base + r.size && (r.sizes.isEmpty || r.sizes.contains n)

/-- PHYS_MAP: what answers an access of `n` bytes at `pa`, 32 for a block; none for memory (00_scope R11,
92_eei_decisions D1). -/
def Params.kindAt (c : Params) (pa : PAddr) (n : Nat) : Option RegionKind :=
  (c.physMap.find? fun r => r.covers pa n).map (·.kind)

/-- Whether a write of `n` bytes to `pa` changes memory. -/
def Params.storesAt (c : Params) (pa : PAddr) (n : Nat) : Bool :=
  match c.kindAt pa n with
  | none => true
  | some .badParity => true
  | _ => false

/-- The aligned doubleword of memory that contains `pa`, in its lanes (20_memory R143). -/
def memDword (bigEndian : Bool) (mem : List Host.Cell) (pa : PAddr) : DWord :=
  let base := pa.toNat / 8 * 8
  ofLanes fun j => Memory.read mem (base + laneOf bigEndian j)

/-- Memory with the `n` bytes from address `base` replaced by `f 0 .. f (n-1)`. -/
def storeBytes (mem : List Host.Cell) (base : Nat) (f : Nat → Byte) : Nat → List Host.Cell
  | 0 => mem
  | n + 1 => Memory.write (storeBytes mem base f n) (base + n) (f n)

/-- Memory with the `n` bytes from `pa` replaced by their lanes of the doubleword `data`. -/
def storeLanes (bigEndian : Bool) (mem : List Host.Cell) (pa : PAddr) (n : Nat) (data : DWord) :
    List Host.Cell :=
  storeBytes mem pa.toNat (fun k => lane data (laneOf bigEndian (pa.toNat % 8 + k))) n

/-- A line with the byte at offset `k` replaced. -/
def putLineByte (d : LineData) (k : Nat) (b : Byte) : LineData :=
  (d &&& ~~~ ((0xFF : LineData) <<< (8 * k))) ||| (b.setWidth 256 <<< (8 * k))

/-- The 32-byte line of memory that contains `pa`. -/
def memLine (mem : List Host.Cell) (pa : PAddr) : LineData :=
  let base := pa.toNat / 32 * 32
  (List.range 32).foldl (fun d k => d ||| ((Memory.read mem (base + k)).setWidth 256 <<< (8 * k))) 0

/-- Memory with the line at `pa` replaced. -/
def storeLine (mem : List Host.Cell) (pa : PAddr) (d : LineData) : List Host.Cell :=
  storeBytes mem (pa.toNat / 32 * 32) (lineByte d) 32

/-- Memory after writes of single bytes by other bus masters. -/
def storeEach (mem : List Host.Cell) (l : List (PAddr × Byte)) : List Host.Cell :=
  l.foldl (fun m p => Memory.write m p.1.toNat p.2) mem

/-- The word at `pa` of the aligned doubleword that contains it: an instruction word or a datum in
memory byte order (20_memory R147). -/
def wordOf (bigEndian : Bool) (pa : PAddr) (d : DWord) : Word :=
  if pa.getLsbD 2 = bigEndian then low32 d else high32 d

/-! ### The write buffer -/

/-- The address of a write buffer entry. -/
def WEntry.addr : WEntry → PAddr
  | .word pa _ _ => pa
  | .line pa _ _ _ _ => pa

/-- The bytes an entry writes. -/
def WEntry.size : WEntry → Nat
  | .word _ n _ => n
  | .line _ _ _ _ _ => 32

/-- What answers an entry's write. -/
def Params.kindOf (c : Params) (e : WEntry) : Option RegionKind := c.kindAt e.addr e.size

/-- Whether an entry's write changes memory. -/
def Params.takes (c : Params) (e : WEntry) : Bool := c.storesAt e.addr e.size

/-- Memory after an entry's write. -/
def WEntry.apply (bigEndian : Bool) (mem : List Host.Cell) : WEntry → List Host.Cell
  | .word pa n d => storeLanes bigEndian mem pa n d
  | .line pa d _ _ _ => storeLine mem pa d

/-- Memory as it will be once the buffered writes have left. -/
def State.pendingMem (s : State) : List Host.Cell :=
  s.wbuf.foldl (init := s.mem) fun m e => if s.cfg.takes e then e.apply s.cfg.bigEndian m else m

/-- A number for each data cycle of the step, so that its open values are its own. -/
def State.cycleNo (s : State) (k : Nat) : Nat := 4 * s.bus.length + k

/-- The undefined bits of a data identifier. -/
def State.reservedBits (s : State) (k : Nat) : BitVec 5 := (s.freeWord (.reservedId (s.cycleNo k))).setWidth 5

/-- The request an entry becomes on the system interface (61_system_interface R784, R785). -/
def State.requestOf (s : State) : WEntry → BusReq
  | .word pa n d =>
    .write pa n (wordCycle s.cfg.bigEndian pa n d (s.freeWord (.unusedLanes (s.cycleNo 0))) (s.reservedBits 0))
  | .line pa d par retained _ => .blockWrite pa retained (lineCycles s.cfg.bigEndian d par s.reservedBits)

/-- A request is issued; what other masters write before it is in memory (61_system_interface R810 (e)). -/
def State.issue (s : State) (r : BusReq) : State :=
  { s with bus := r :: s.bus, mem := storeEach s.mem (s.dma.headD []), dma := s.dma.tail }

/-- One buffered write leaves (61_system_interface R784, R785). A write has no response: where a read would
be answered with a bus error the data is lost (60_exceptions R707); a device takes it (92_eei_decisions D1). -/
def State.sendWrite (s : State) (e : WEntry) : Res Unit :=
  let s1 := s.issue (s.requestOf e)
  if s.cfg.kindOf e = some .noResponse then .stop (.fault .writeNotAccepted)
  else if s.cfg.takes e then .ok () { s1 with mem := e.apply s.cfg.bigEndian s1.mem }
  else .ok () s1

/-- Entries leave in order. -/
def State.sendAll : List WEntry → State → Res Unit
  | [], s => .ok () s
  | e :: t, s => (s.sendWrite e).bind fun _ s' => State.sendAll t s'

/-- The write buffer is flushed before any read request (20_memory R163, D39), by SYNC (R157), LL and SC
(R169) and CACHE (22_caches R262). -/
def State.drain (s : State) : Res Unit :=
  State.sendAll s.wbuf { s with wbuf := [] }

/-- The oldest entry leaves. -/
def State.drainHead (s : State) : Res Unit :=
  match s.wbuf with
  | [] => .ok () s
  | e :: t => { s with wbuf := t }.sendWrite e

/-- Whether an entry is a line: it fills the whole buffer (20_memory R160). -/
def WEntry.isLine : WEntry → Bool
  | .line _ _ _ _ _ => true
  | .word _ _ _ => false

/-- `n` bytes from `pa` are about to be written to memory: a fetch from there may see the old ones for three
instructions (70_reset_and_hazards R864, D44). -/
def State.noteCode (s : State) (pa : PAddr) (n : Nat) : State := s.note (.code pa n (memLine s.pendingMem pa))

/-- A store enters the write buffer; if the buffer is full, the oldest entry leaves first (20_memory R162). -/
def State.pushWrite (s : State) (pa : PAddr) (n : Nat) (data : DWord) : Res Unit :=
  let room : Res Unit := if s.wbuf.length ≥ 4 || s.wbuf.any (·.isLine) then s.drainHead else .ok () s
  room.bind fun _ s' =>
    let s1 := s'.noteCode pa n
    .ok () { s1 with wbuf := s1.wbuf ++ [.word pa n data] }

/-- The line in `slot` enters the write buffer, which it fills (20_memory R160, 22_caches R260). -/
def State.pushLine (s : State) (pa : PAddr) (d : LineData) (par : BitVec 32) (retained : Bool)
    (slot : Bool × Nat) : Res Unit :=
  s.drain.bind fun _ s' =>
    let s1 := s'.noteCode pa 32
    .ok () { s1 with wbuf := [.line pa d par retained slot] }

/-! ### Reads -/

/-- Memory as an instruction fetch of the `len` bytes from `base` sees it: within three instructions of a write to
them, a draw between the old and the new bytes (70_reset_and_hazards R864, D44). -/
def State.codeMem (s : State) (base len : Nat) : List Host.Cell :=
  s.hist.foldl (init := s.mem) fun m h =>
    match h.what with
    | .code pa n old =>
      if pa.toNat < base + len && base < pa.toNat + n && inWindow 3 h.age then
        if s.pick (.hazardCode pa h.age) then storeBytes m pa.toNat (fun k => lineByte old (pa.toNat % 32 + k)) n
        else m
      else m
    | _ => m

/-- The data cycle in which a doubleword answers: good parity, or with a wrong check bit in each of its words; or a bus
error (R787, R788, log 34). -/
def respCycle (kind : Option RegionKind) (last : Bool) (d : DWord) : DataCycle :=
  { id := readId last (kind = some .busError)
    data := d
    check := if kind = some .badParity then checkBits d ^^^ 0x11 else checkBits d }

/-- The doubleword that answers data cycle `k` of a read: of memory, or open from a device. -/
def State.respDword (s : State) (kind : Option RegionKind) (mem : List Host.Cell) (k : Nat) (pa : PAddr) : DWord :=
  if kind = none || kind = some .badParity then memDword s.cfg.bigEndian mem pa
  else s.freeWord (.deviceData (s.cycleNo k))

/-- The data cycles of the response to a read request at `pa` (61_system_interface R783, R790): one doubleword, or the
four of the line in subblock order. -/
def State.response (s : State) (kind : Option RegionKind) (mem : List Host.Cell) (block : Bool) (pa : PAddr) :
    List DataCycle :=
  if block then
    (List.range 4).map fun k =>
      let at_ : PAddr := pa.extractLsb' 5 31 ++ (pa.extractLsb' 3 2 ^^^ BitVec.ofNat 2 k) ++ (0 : BitVec 3)
      respCycle kind (k = 3) (s.respDword kind mem k at_)
  else [respCycle kind true (s.respDword kind mem 0 pa)]

/-- A read request: the write buffer is flushed, the request is issued, the external agent answers
(61_system_interface R774, R782, R783). If nothing answers, the processor waits, the interface in slave state
(R768, U74); when the response has come, the instruction runs again from here and takes it. `line`: the cache line
being refilled. -/
def State.busRead (s : State) (req : BusReq) (pa : PAddr) (fetch : Bool) (line : Option (Bool × Nat)) :
    Res (List DataCycle) :=
  match s.busReply with
  | some cs => .ok cs { s with busReply := none }
  | none =>
    s.drain.bind fun _ s1 =>
      let s2 := s1.issue req
      let kind := s.cfg.kindAt pa req.size
      let block := line.isSome
      let base := if block then pa.toNat / 32 * 32 else pa.toNat / 8 * 8
      let mem := if fetch then s2.codeMem base (if block then 32 else 8) else s2.mem
      if kind = some .noResponse then
        .stop (.next { s2 with
          slave := true
          busWait := some { fetch := fetch, word := 0, req := req, line := line, free := s.free } })
      else .ok (s1.response kind mem block pa) s2

/-- A parity error: the Cache Error exception unless Status.DE is 1 (60_exceptions R713, R714). -/
def State.parityError (s : State) (p : ParityError) : Res Unit :=
  if stDE (s.statusSeen .parityEnable) then .ok () s else .stop (.next (s.raiseCacheError p))

end Sys2Proof.Machine
end

