-- ==== Sys2Proof/Machine/Cache.lean ====
section
/-! DEFINITION. The primary caches (22_caches): lookup, refill, replacement and write-back, parity, and what
loads, stores and fetches do by cache attribute (R250 to R254). -/
namespace Sys2Proof.Machine

/-- The index of a line: way and set (22_caches R233, R242). -/
def lineIndex (way : Bool) (set : BitVec 8) : Nat := (if way then 256 else 0) + set.toNat

/-- The set a virtual address selects (22_caches R233). -/
def setOf (va : DWord) : BitVec 8 := va.extractLsb' 5 8

/-- The tag of a physical address (22_caches R230). -/
def tagOf (pa : PAddr) : BitVec 24 := pa.extractLsb' 12 24

def State.dline (s : State) (i : Nat) : DLine := sparseGet DLine.zero s.dcache i
def State.iline (s : State) (i : Nat) : ILine := sparseGet ILine.zero s.icache i
def State.putDline (s : State) (i : Nat) (l : DLine) : State :=
  { s with dcache := sparsePut DLine.zero s.dcache i l }
def State.putIline (s : State) (i : Nat) (l : ILine) : State :=
  { s with icache := sparsePut ILine.zero s.icache i l }

/-! ### Parity (22_caches R237) -/

/-- The parity of a data tag and state. -/
def dTagParity (tag : BitVec 24) (state : BitVec 2) : Bool := parity (tag ++ state)

/-- The parity of an instruction tag and valid bit. R237 gives the coverage of the data tag alone; the model leaves the
reserved bit and the FIFO bit out here too (DESIGN CHOICE, log 20). -/
def iTagParity (tag : BitVec 24) (valid : Bool) : Bool := parity (tag ++ bit valid)

/-- A data line with a new tag and state and their parity. -/
def DLine.retag (l : DLine) (tag : BitVec 24) (state : BitVec 2) : DLine :=
  { l with tag := tag, state := state, tagPar := dTagParity tag state }

/-- A data line with a new W and its parity. -/
def DLine.setW (l : DLine) (w : Bool) : DLine := { l with w := w, wPar := w }

/-- An instruction line with a new tag and valid bit and their parity. -/
def ILine.retag (l : ILine) (tag : BitVec 24) (valid : Bool) : ILine :=
  { l with tag := tag, valid := valid, tagPar := iTagParity tag valid }

/-- Whether the tag of a data line has good parity. -/
def DLine.tagGood (l : DLine) : Bool := l.tagPar == dTagParity l.tag l.state && l.wPar == l.w

/-- Whether doubleword `j` of a data line has good parity. -/
def DLine.dwordGood (l : DLine) (j : Nat) : Bool :=
  (l.par ^^^ byteParities l.data).extractLsb' (8 * j) 8 == 0

/-- The doublewords of a data line with bad parity (61_system_interface R787). -/
def DLine.errs (l : DLine) : BitVec 4 := lineErrs l.data l.par

/-! ### Data cache lookup, replacement, write-back -/

/-- Whether line `i` holds the physical address (22_caches R233). -/
def DLine.hits (l : DLine) (pa : PAddr) : Bool := l.tag == tagOf pa && l.state != 0

/-- The line of the set that holds the address, if any. With two lines of one tag the choice is open. -/
def State.dLookup (s : State) (va : DWord) (pa : PAddr) : Option Nat :=
  let a := lineIndex false (setOf va)
  let b := lineIndex true (setOf va)
  match (s.dline a).hits pa, (s.dline b).hits pa with
  | true, true => some (if s.pick (.sameTag false) then b else a)
  | true, false => some a
  | false, true => some b
  | false, false => none

/-- The memory address of a cached line: its tag and its index; bit 12 stands in both, and when they differ
it is open which counts (22_caches R242). -/
def State.lineAddr (s : State) (tag : BitVec 24) (i : Nat) : PAddr :=
  let set := BitVec.ofNat 8 i
  let b12 := if tag.getLsbD 0 = set.getLsbD 7 then tag.getLsbD 0 else s.pick .writeBackBit12
  tag.extractLsb' 1 23 ++ bit b12 ++ set.extractLsb' 0 7 ++ (0 : BitVec 5)

/-- Whether line `i` is the one that holds the linked address (20_memory R166, 61_system_interface R777). -/
def State.linked (s : State) (i : Nat) : Bool :=
  let l := s.dline i
  s.llbit && l.hits s.linkPa && (BitVec.ofNat 7 i == s.linkPa.extractLsb' 5 7)

/-- The link is broken when the linked line is invalidated or replaced (20_memory R166). -/
def State.breakLink (s : State) (i : Nat) : State :=
  { s with llbit := s.llbit && !s.linked i }

/-- A parity error, if there is one, ends the instruction unless Status.DE is 1. -/
def State.checkParity (s : State) (p : Option ParityError) : Res Unit :=
  match p with
  | none => .ok () s
  | some e => s.parityError e

/-- Line `i` goes into the write buffer (22_caches R260), for a reference to `va`, at `pa`. Bad parity is sent with the
good-data bit off (61_system_interface R787) and raises Cache Error (60_exceptions R714 (c)) before the instruction has
changed anything else (R681). CacheErr holds the reference's address, as R110 says of SIdx, and not that of the line
written back nor of the doubleword in error (DEDUCED, log 20). -/
def State.writeBack (s : State) (va : DWord) (pa : PAddr) (i : Nat) (retained : Bool) : Res Unit :=
  let l := s.dline i
  (s.pushLine (s.lineAddr l.tag i) l.data l.par retained (false, i)).bind fun _ s' =>
    s'.checkParity (if l.errs = 0 then none
      else some { er := true, ed := true, et := false, ee := false, va := va, pa := pa })

/-- Line `i` leaves the cache for a reference to `va`, at `pa`: written back if it holds modified data (22_caches
R251). -/
def State.evict (s : State) (va : DWord) (pa : PAddr) (i : Nat) : Res Unit :=
  let l := s.dline i
  if l.state != 0 && l.w then s.writeBack va pa i false else .ok () s

/-- The way a refill replaces: open (22_caches R235, U32). -/
def State.victim (s : State) (instr : Bool) (va : DWord) : Nat :=
  lineIndex (s.pick (.victimWay instr)) (setOf va)

/-- A new data line from the data cycles of a block read's response: Dirty Exclusive, W = 0 (22_caches R251), with the
parity that came (61_system_interface R788). -/
def newDLine (bigEndian : Bool) (pa : PAddr) (fifo : Bool) (cs : List DataCycle) : DLine :=
  { tag := tagOf pa, state := 3, w := false, par := respPar bigEndian (pa.extractLsb' 3 2) cs,
    tagPar := dTagParity (tagOf pa) 3, wPar := false, fifo := fifo,
    data := respLine bigEndian (pa.extractLsb' 3 2) cs }

/-- The parity error of a read response, if its first doubleword has one (60_exceptions R714 (d)). -/
def respParity (cs : List DataCycle) (er : Bool) (va : DWord) (pa : PAddr) : Option ParityError :=
  if respBad cs then some { er := er, ed := false, et := false, ee := true, va := va, pa := pa } else none

/-- The end of a read: bad parity is a Cache Error, and an erroneous response a Bus Error, that of a fetch or of data.
Where both are found, the Cache Error comes first (60_exceptions R696); with Status.DE the Bus Error is left. `er`:
for a data reference. -/
def State.checkResponse (s : State) (cs : List DataCycle) (fetch er : Bool) (va : DWord) (pa : PAddr) : Res Unit :=
  (s.checkParity (respParity cs er va pa)).bind fun _ s1 =>
    if respError cs then .stop (s1.except (.busError fetch)) else .ok () s1

/-- The address of the doubleword that contains `pa`. -/
def dwordAddr (pa : PAddr) : PAddr := pa.extractLsb' 3 33 ++ (0 : BitVec 3)

/-- The data cache refill (22_caches R251, 61_system_interface R771): buffered writes leave, the line is read, the old
line goes to the write buffer if dirty, the new one is installed. A parity error, of the old line or of the response
(R788), comes before a bus error (60_exceptions R696). After an erroneous response the line is left invalid (D37),
with the new tag and the old data, and no refill changes the other way's FIFO bit (DESIGN CHOICE, log 19). Answers the
line's index. -/
def State.refillD (s : State) (va : DWord) (pa : PAddr) : Res Nat :=
  let i := s.victim false va
  (s.busRead (.blockRead (dwordAddr pa) (s.linked i)) (dwordAddr pa) false (some (false, i))).bind fun cs s1 =>
    (s1.evict va pa i).bind fun _ s2 =>
      let s3 := s2.breakLink i
      let s4 := s3.putDline i (if respError cs then (s3.dline i).retag (tagOf pa) 0
        else newDLine s.cfg.bigEndian pa (s.pick (.fifoBit false)) cs)
      (s4.checkResponse cs false true va pa).bind fun _ s5 => .ok i s5

/-- The line of the data cache for a cached reference: found, or refilled. -/
def State.dFind (s : State) (va : DWord) (pa : PAddr) : Res Nat :=
  match s.dLookup va pa with
  | some i => .ok i s
  | none => s.refillD va pa

/-! ### Loads and stores by attribute -/

/-- An uncached read of `n` bytes (22_caches R250); answers the aligned doubleword. -/
def State.uncachedRead (s : State) (va : DWord) (pa : PAddr) (n : Nat) (fetch : Bool) : Res DWord :=
  (s.busRead (.read pa n) pa fetch none).bind fun cs s1 =>
    (s1.checkResponse cs fetch (!fetch) va pa).bind fun _ s2 => .ok (cycleAt cs 0).data s2

/-- The parity error of cached line `i` for a reference to `pa`: the doubleword it lies in, and the tag
(60_exceptions R714 (b)). With both wrong both ED and ET are set, which the manual does not say (N12; DESIGN CHOICE,
log 20). -/
def State.lineError (s : State) (va : DWord) (pa : PAddr) (i : Nat) : Option ParityError :=
  let l := s.dline i
  let ed := !l.dwordGood (pa.extractLsb' 3 2).toNat
  let et := !l.tagGood
  if ed || et then some { er := true, ed := ed, et := et, ee := false, va := va, pa := pa } else none

/-- Doubleword `pa[4:3]` of cached line `i`, its parity and its tag's checked. -/
def State.readDLine (s : State) (va : DWord) (pa : PAddr) (i : Nat) : Res DWord :=
  (s.checkParity (s.lineError va pa i)).bind fun _ s1 =>
    .ok (lineDword s.cfg.bigEndian (s.dline i).data (pa.extractLsb' 3 2).toNat) s1

/-- `MemRead(pa, n, attr)`: the aligned doubleword that contains `pa` (00_scope R18). -/
def State.memRead (s : State) (va : DWord) (pa : PAddr) (n : Nat) (attr : BitVec 3) : Res DWord :=
  if attr = 2 then s.uncachedRead va pa n false
  else (s.dFind va pa).bind fun i s1 => s1.readDLine va pa i

/-- `n` bytes from `pa` written into line `i` from their lanes. With Status.CE the parity of each byte is
its lane's bit of ECC instead of the computed one (11_cp0_registers R108). -/
def State.writeDLine (s : State) (i : Nat) (pa : PAddr) (n : Nat) (data : DWord) (back : Bool) : State :=
  let l := s.dline i
  let be := s.cfg.bigEndian
  let ce := stCE (s.statusSeen .forcedParity)
  let l1 := (List.range n).foldl (init := l) fun l k =>
    let o := pa.toNat % 32 + k
    let ln := laneOf be (pa.toNat % 8 + k)
    let b := lane data ln
    { l with data := putLineByte l.data o b
             par := putBit l.par o (if ce then s.cp0.ecc.getLsbD ln else parity b) }
  s.putDline i (if back then (l1.retag l1.tag 3).setW true else l1)

/-- A store that hits line `i` (22_caches R252, R253): attribute 3 sets W and Dirty Exclusive, 0 and 1 send
the bytes to memory too. Its read-merge checks the doubleword and the tag as a load does (60_exceptions R714 (b)),
that of a whole doubleword too (DEDUCED, log 20). -/
def State.storeHit (s : State) (va : DWord) (pa : PAddr) (n : Nat) (data : DWord) (attr : BitVec 3)
    (i : Nat) : Res Unit :=
  (s.checkParity (s.lineError va pa i)).bind fun _ s1 =>
    if attr = 3 then .ok () (s1.writeDLine i pa n data true)
    else (s1.writeDLine i pa n data false).pushWrite pa n data

/-- `MemWrite(pa, n, v, attr)`: the `n` bytes from `pa`, in their lanes of `data` (00_scope R18, 22_caches
R250 to R253). -/
def State.memWrite (s : State) (va : DWord) (pa : PAddr) (n : Nat) (data : DWord) (attr : BitVec 3) :
    Res Unit :=
  if attr = 2 then s.pushWrite pa n data
  else if attr = 0 then
    match s.dLookup va pa with
    | some i => s.storeHit va pa n data attr i
    | none => s.pushWrite pa n data
  else (s.dFind va pa).bind fun i s1 => s1.storeHit va pa n data attr i

/-! ### Instruction fetch (22_caches R233, R254) -/

/-- Instruction line `i` as a fetch sees it: within three instructions of a CACHE operation that changed it,
a draw between old and new, for each operation by itself (70_reset_and_hazards R864, D44). -/
def State.ilineSeen (s : State) (i : Nat) : ILine :=
  s.hist.foldl (init := s.iline i) fun v h =>
    match h.what with
    | .icache i' old => if i' = i && inWindow 3 h.age && s.pick (.hazardICache i h.age) then old else v
    | _ => v

/-- Whether word `k` of an instruction line has good parity. -/
def ILine.wordGood (l : ILine) (k : Nat) : Bool :=
  l.par.getLsbD k == parity (l.data.extractLsb' (32 * k) 32)

/-- The line that supplies the instruction to a fetch, if it hits: a line of the tag must be valid, but the valid bits
take no part in the choice, so with both tags equal an open one of the two supplies it, even an invalid one
(22_caches R233, U33). -/
def State.iLookup (s : State) (va : DWord) (pa : PAddr) : Option Nat :=
  let a := lineIndex false (setOf va)
  let b := lineIndex true (setOf va)
  let tagged := fun i => (s.ilineSeen i).tag == tagOf pa
  let valid := fun i => tagged i && (s.ilineSeen i).valid
  if valid a || valid b then
    if tagged a && tagged b then some (if s.pick (.sameTag true) then b else a)
    else some (if tagged a then a else b)
  else none

/-- The parity of each word from that of its bytes (61_system_interface R788). -/
def wordPar (par : BitVec 32) : BitVec 8 :=
  (List.range 8).foldl (fun p k => putBit p k (parity (par.extractLsb' (4 * k) 4))) 0

/-- A new instruction line from the data cycles of a block read's response, `s` being the doubleword addressed. -/
def newILine (bigEndian : Bool) (s : BitVec 2) (pa : PAddr) (fifo : Bool) (cs : List DataCycle) : ILine :=
  { tag := tagOf pa, valid := true, par := wordPar (respPar bigEndian s cs),
    tagPar := iTagParity (tagOf pa) true, fifo := fifo, reserved := false, data := respLine bigEndian s cs }

/-- The instruction cache refill (22_caches R254): the line comes from memory, not from the data cache
(20_memory R167, D16). After an erroneous response the line is left invalid (D37), with the new tag and the old data
(DESIGN CHOICE, log 19). -/
def State.refillI (s : State) (va : DWord) (pa : PAddr) : Res ILine :=
  let i := s.victim true va
  (s.busRead (.blockRead (dwordAddr pa) false) (dwordAddr pa) true (some (true, i))).bind fun cs s1 =>
    let l := if respError cs then (s1.iline i).retag (tagOf pa) false
      else newILine s.cfg.bigEndian (pa.extractLsb' 3 2) pa (s.pick (.fifoBit true)) cs
    ((s1.putIline i l).checkResponse cs true false va pa).bind fun _ s2 => .ok l s2

/-- The word of an instruction line at `pa`, parity checked (60_exceptions R714 (a)); ED and ET as in
`State.lineError`. -/
def State.readILine (s : State) (va : DWord) (pa : PAddr) (l : ILine) : Res Word :=
  let ed := !l.wordGood (pa.extractLsb' 2 3).toNat
  let et := !(l.tagPar == iTagParity l.tag l.valid)
  let e : Option ParityError :=
    if ed || et then some { er := false, ed := ed, et := et, ee := false, va := va, pa := pa } else none
  (s.checkParity e).bind fun _ s1 =>
    .ok (wordOf s.cfg.bigEndian pa (lineDword s.cfg.bigEndian l.data (pa.extractLsb' 3 2).toNat)) s1

/-- The instruction word at a translated pc (20_memory R147, 22_caches R250, R254). -/
def State.fetchWord (s : State) (va : DWord) (pa : PAddr) (attr : BitVec 3) : Res Word :=
  if attr = 2 then
    (s.uncachedRead va pa 4 true).bind fun d s1 => .ok (wordOf s1.cfg.bigEndian pa d) s1
  else
    match s.iLookup va pa with
    | some i => s.readILine va pa (s.ilineSeen i)
    | none => (s.refillI va pa).bind fun l s1 => s1.readILine va pa l

end Sys2Proof.Machine
end

