-- ==== Sys2Proof/Machine/Flags.lean ====
section
/-! DEFINITION. The conditions the instructions test and the fields of FCR31: integer overflow (41_alu R360), the
branch conditions (43_jumps_branches), the floating-point Cause, Enable and Flag bits (47_fpu_state_formats
R570 to R573) and how a floating-point operation ends (R572). -/
namespace Sys2Proof.Machine

/-! ### Integer overflow (41_alu R360 item 4) -/

/-- The exact result does not fit in `n` signed bits. -/
def overflows (n : Nat) (v : Int) : Bool := v < -(2 ^ (n - 1) : Int) || v > (2 ^ (n - 1) : Int) - 1

/-- Overflow of a signed sum. -/
def addOverflows {n : Nat} (a b : BitVec n) : Bool := overflows n (a.toInt + b.toInt)

/-- Overflow of a signed difference. -/
def subOverflows {n : Nat} (a b : BitVec n) : Bool := overflows n (a.toInt - b.toInt)

/-! ### Comparisons with zero (43_jumps_branches R448 to R451) -/

/-- The sign bit. -/
def isNeg (v : DWord) : Bool := v.getLsbD 63

/-- Less than or equal to zero. -/
def isLez (v : DWord) : Bool := isNeg v || v == 0

/-- 1 or 0 in a general register (41_alu R382). -/
def boolWord (b : Bool) : DWord := if b then 1 else 0

/-! ### FCR31 (47_fpu_state_formats R570) -/

/-- The bits of FCR31 that are not reserved. -/
def fcr31Mask : Word := 0x0183FFFF#32

/-- Rounding mode, bits 1:0. -/
def fcrRM (f : Word) : BitVec 2 := f.extractLsb' 0 2
/-- Enables V Z O U I, bits 11:7. -/
def fcrEnables (f : Word) : BitVec 5 := f.extractLsb' 7 5
/-- Cause E V Z O U I, bits 17:12. -/
def fcrCause (f : Word) : BitVec 6 := f.extractLsb' 12 6
/-- Flags V Z O U I, bits 6:2. -/
def fcrFlags (f : Word) : BitVec 5 := f.extractLsb' 2 5
/-- The condition bit, bit 23. -/
def fcrC (f : Word) : Bool := f.getLsbD 23
/-- Flush denormalized results, bit 24. -/
def fcrFS (f : Word) : Bool := f.getLsbD 24

/-- FCR31 with its Cause field replaced. -/
def putCause (f : Word) (x : BitVec 6) : Word := mergeMask 0x3F000#32 f (x.setWidth 32 <<< 12)
/-- FCR31 with its Flag field replaced. -/
def putFlags (f : Word) (x : BitVec 5) : Word := mergeMask 0x7C#32 f (x.setWidth 32 <<< 2)
/-- FCR31 with its condition bit replaced. -/
def putC (f : Word) (c : Bool) : Word := putBit f 23 c

/-- The exception conditions of a floating-point operation, in the order of the Cause field: Unimplemented,
Invalid, Division by zero, Overflow, Underflow, Inexact. -/
def fpE : BitVec 6 := 0x20
def fpV : BitVec 6 := 0x10
def fpZ : BitVec 6 := 0x08
def fpO : BitVec 6 := 0x04
def fpU : BitVec 6 := 0x02
def fpI : BitVec 6 := 0x01

/-- Whether the conditions `x` take the trap under the Enables `en`: E always does (47_fpu_state_formats R572). -/
def fpTraps (x : BitVec 6) (en : BitVec 5) : Bool := x.getLsbD 5 || (x.setWidth 5 &&& en) != 0

/-- FCR31 as the next instruction uses it: after a CTC1 a draw between old and new (70_reset_and_hazards R852). -/
def State.fcrSeen (s : State) : Word :=
  s.hist.foldl (init := s.fcr31) fun v h =>
    match h.what with
    | .fcr31 old => if inWindow 1 h.age && s.pick .hazardFcr31 then old else v
    | _ => v

/-- The condition a BC1 branch tests, COC[1]: right after a compare or CTC1 a draw between old and new
(70_reset_and_hazards R854, D42). -/
def State.condSeen (s : State) : Bool :=
  s.hist.foldl (init := fcrC s.fcr31) fun v h =>
    match h.what with
    | .fcc old => if inWindow 1 h.age && s.pick .hazardFcc then old else v
    | _ => v

/-- `FPFinish` (47_fpu_state_formats R572): Cause is written; a trap stores nothing and leaves the Flags; else the
Flags accumulate and the result is stored. -/
def State.fpFinish (s : State) (x : BitVec 6) (store : State → State) : Result :=
  let s1 := { s with fcr31 := putCause s.fcr31 x }
  if fpTraps x (fcrEnables s.fcrSeen) then s1.except .floatingPoint
  else (store { s1 with fcr31 := putFlags s1.fcr31 (fcrFlags s1.fcr31 ||| x.setWidth 5) }).done

/-- The end of an operation that is not defined because of an odd register number with FR = 0: Cause, Flags
and the result are open, and the only exception is the one the open Cause implies (47_fpu_state_formats R562,
D34). -/
def State.fpOdd (s : State) (store : State → State) : Result :=
  let w := s.freeWord .oddStatus
  let x : BitVec 6 := w.extractLsb' 0 6
  let s1 := { s with fcr31 := putFlags (putCause s.fcr31 x) (w.extractLsb' 6 5) }
  if fpTraps x (fcrEnables s.fcrSeen) then s1.except .floatingPoint else (store s1).done

end Sys2Proof.Machine
end

