-- ==== Sys2Proof/Machine/FpuFormat.lean ====
section
/-! DEFINITION. Floating-point numbers: the two formats (47_fpu_state_formats R565 to R567), exact arithmetic on
them, rounding (R571), and the overflow, underflow and inexact results (R575 to R579). Everything is exact
integer arithmetic, narrowed once at the end. -/
namespace Sys2Proof.Machine

/-- A binary floating-point format: the widths of the exponent and of the stored fraction (R565). -/
structure FpFmt where
  ebits : Nat
  fbits : Nat
  deriving DecidableEq, Repr

/-- Single (R565). -/
def fmtS : FpFmt := { ebits := 8, fbits := 23 }
/-- Double (R565). -/
def fmtD : FpFmt := { ebits := 11, fbits := 52 }

/-- The precision, hidden bit included. -/
def FpFmt.prec (f : FpFmt) : Nat := f.fbits + 1
/-- Emax, which is also the bias. -/
def FpFmt.emax (f : FpFmt) : Nat := 2 ^ (f.ebits - 1) - 1
/-- Emin. -/
def FpFmt.emin (f : FpFmt) : Int := 1 - (f.emax : Int)
/-- The width. -/
def FpFmt.width (f : FpFmt) : Nat := f.ebits + f.fbits + 1

/-- A number, or what is not one. `fin s m e` is (-1)^s · m · 2^e; zero has m = 0. -/
inductive FpVal where
  | nan (signaling : Bool)
  | inf (sign : Bool)
  | fin (sign : Bool) (m : Nat) (e : Int)
  deriving DecidableEq, Repr

/-- The biased exponent field. -/
def FpFmt.expField (f : FpFmt) (v : Nat) : Nat := v / 2 ^ f.fbits % 2 ^ f.ebits
/-- The fraction field. -/
def FpFmt.fracField (f : FpFmt) (v : Nat) : Nat := v % 2 ^ f.fbits
/-- The sign bit. -/
def FpFmt.signBit (f : FpFmt) (v : Nat) : Bool := v / 2 ^ (f.ebits + f.fbits) % 2 == 1

/-- The value of a bit pattern (R565 Table 6.5); a NaN is signaling if the top bit of its fraction is set (R567). -/
def FpFmt.value (f : FpFmt) (v : Nat) : FpVal :=
  let e := f.expField v
  let m := f.fracField v
  let s := f.signBit v
  if e = 2 ^ f.ebits - 1 then
    if m = 0 then .inf s else .nan (m / 2 ^ (f.fbits - 1) == 1)
  else if e = 0 then .fin s m (f.emin - f.fbits)
  else .fin s (2 ^ f.fbits + m) ((e : Int) - f.emax - f.fbits)

/-- A denormalized number (R565 case 4). -/
def FpFmt.denormal (f : FpFmt) (v : Nat) : Bool := f.expField v == 0 && f.fracField v != 0

/-- A pattern from its fields. -/
def FpFmt.pack (f : FpFmt) (sign : Bool) (exp frac : Nat) : DWord :=
  BitVec.ofNat 64 ((if sign then 2 ^ (f.ebits + f.fbits) else 0) + exp * 2 ^ f.fbits + frac)

/-- A signed zero. -/
def FpFmt.zero (f : FpFmt) (sign : Bool) : DWord := f.pack sign 0 0
/-- A signed infinity. -/
def FpFmt.infinity (f : FpFmt) (sign : Bool) : DWord := f.pack sign (2 ^ f.ebits - 1) 0
/-- The largest finite number, signed (R578). -/
def FpFmt.largest (f : FpFmt) (sign : Bool) : DWord := f.pack sign (2 ^ f.ebits - 2) (2 ^ f.fbits - 1)
/-- ±2^Emin (R579). -/
def FpFmt.smallestNormal (f : FpFmt) (sign : Bool) : DWord := f.pack sign 1 0

/-- What the arithmetic needs of FCR31: the rounding mode, FS, and Enable U (R571, R579). -/
structure FpMode where
  rm : BitVec 2
  flush : Bool
  trapU : Bool
  deriving DecidableEq, Repr

/-- The number of bits of a positive number. -/
def bitLength (n : Nat) : Nat := if n = 0 then 0 else Nat.log2 n + 1

/-- `m / 2^shift`, plus a nonzero amount below one unit of `m` if `sticky`, rounded to an integer in a mode
(R571); and whether the rounded value differs. -/
def roundShift (rm : BitVec 2) (sign : Bool) (m shift : Nat) (sticky : Bool) : Nat × Bool :=
  let q := m / 2 ^ shift
  let r := m % 2 ^ shift
  let inexact := r != 0 || sticky
  let up :=
    if rm = 0 then
      decide (2 ^ shift < 2 * r) || (decide (2 ^ shift = 2 * r) && (sticky || q % 2 == 1))
    else if rm = 1 then false
    else if rm = 2 then inexact && !sign
    else inexact && sign
  (if up then q + 1 else q, inexact)

/-- The flushed result of a tiny value (R579, D32). -/
def FpFmt.flushed (f : FpFmt) (rm : BitVec 2) (sign : Bool) : DWord :=
  if (rm = 2 && !sign) || (rm = 3 && sign) then f.smallestNormal sign else f.zero sign

/-- The default result of an overflow (R578). -/
def FpFmt.overflowed (f : FpFmt) (rm : BitVec 2) (sign : Bool) : DWord :=
  if rm = 0 || (rm = 2 && !sign) || (rm = 3 && sign) then f.infinity sign else f.largest sign

/-- The nonzero exact value `(-1)^sign · (m + δ) · 2^e`, 0 <= δ < 1 and δ nonzero exactly if `sticky`, rounded
and narrowed: the exception conditions and the result (R575, R578, R579). `m` is positive; if `sticky`, it has more
than `prec` bits. -/
def FpFmt.round (f : FpFmt) (c : FpMode) (sign : Bool) (m : Nat) (e : Int) (sticky : Bool) : BitVec 6 × DWord :=
  let shift := bitLength m - f.prec
  let (q, inexact) := roundShift c.rm sign m shift sticky
  let top : Int := e + shift + bitLength q - 1
  let i : BitVec 6 := if inexact then fpI else 0
  if top > f.emax then (fpO ||| fpI, f.overflowed c.rm sign)
  else if top < f.emin then
    if c.trapU then (fpU ||| i, f.zero sign)
    else if c.flush then (fpU ||| fpI, f.flushed c.rm sign)
    else (fpE, f.zero sign)
  else
    (i, f.pack sign (top + f.emax).toNat (q * 2 ^ f.prec / 2 ^ bitLength q - 2 ^ f.fbits))

/-- An exact signed value `n · 2^e` rounded; zero has the given sign. -/
def FpFmt.roundInt (f : FpFmt) (c : FpMode) (n : Int) (e : Int) (zeroSign : Bool) : BitVec 6 × DWord :=
  if n = 0 then (0, f.zero zeroSign) else f.round c (decide (n < 0)) n.natAbs e false

/-- `(-1)^s · m · 2^e` as an integer at the scale 2^e0, e0 <= e. -/
def scaled (s : Bool) (m : Nat) (e e0 : Int) : Int :=
  let v : Int := m * 2 ^ (e - e0).toNat
  if s then -v else v

/-- The sign of an exact zero sum (49_fpu_arith_convert_compare R631). -/
def zeroSumSign (rm : BitVec 2) (sa sb : Bool) : Bool := if sa = sb then sa else rm = 3

/-- a + b (R640); `qnan` is the default quiet NaN. -/
def FpFmt.add (f : FpFmt) (c : FpMode) (qnan : DWord) (a b : FpVal) : BitVec 6 × DWord :=
  match a, b with
  | .nan _, _ => (fpV, qnan)
  | _, .nan _ => (fpV, qnan)
  | .inf sa, .inf sb => if sa = sb then (0, f.infinity sa) else (fpV, qnan)
  | .inf sa, .fin _ _ _ => (0, f.infinity sa)
  | .fin _ _ _, .inf sb => (0, f.infinity sb)
  | .fin sa ma ea, .fin sb mb eb =>
    let e0 := min ea eb
    f.roundInt c (scaled sa ma ea e0 + scaled sb mb eb e0) e0 (zeroSumSign c.rm sa sb)

/-- The value with its sign inverted. -/
def FpVal.negate : FpVal → FpVal
  | .nan q => .nan q
  | .inf s => .inf (!s)
  | .fin s m e => .fin (!s) m e

/-- a - b (R641). -/
def FpFmt.sub (f : FpFmt) (c : FpMode) (qnan : DWord) (a b : FpVal) : BitVec 6 × DWord :=
  f.add c qnan a b.negate

/-- a · b (R642). -/
def FpFmt.mul (f : FpFmt) (c : FpMode) (qnan : DWord) (a b : FpVal) : BitVec 6 × DWord :=
  match a, b with
  | .nan _, _ => (fpV, qnan)
  | _, .nan _ => (fpV, qnan)
  | .inf sa, .inf sb => (0, f.infinity (sa ^^ sb))
  | .inf sa, .fin sb m _ => if m = 0 then (fpV, qnan) else (0, f.infinity (sa ^^ sb))
  | .fin sa m _, .inf sb => if m = 0 then (fpV, qnan) else (0, f.infinity (sa ^^ sb))
  | .fin sa ma ea, .fin sb mb eb =>
    if ma * mb = 0 then (0, f.zero (sa ^^ sb)) else f.round c (sa ^^ sb) (ma * mb) (ea + eb) false

/-- The extra bits of a quotient: more than any precision needs. -/
def quotientBits : Nat := 66

/-- a / b (R643). -/
def FpFmt.div (f : FpFmt) (c : FpMode) (qnan : DWord) (a b : FpVal) : BitVec 6 × DWord :=
  match a, b with
  | .nan _, _ => (fpV, qnan)
  | _, .nan _ => (fpV, qnan)
  | .inf _, .inf _ => (fpV, qnan)
  | .inf sa, .fin sb _ _ => (0, f.infinity (sa ^^ sb))
  | .fin sa _ _, .inf sb => (0, f.zero (sa ^^ sb))
  | .fin sa ma ea, .fin sb mb eb =>
    if mb = 0 then (if ma = 0 then (fpV, qnan) else (fpZ, f.infinity (sa ^^ sb)))
    else if ma = 0 then (0, f.zero (sa ^^ sb))
    else
      let n := ma * 2 ^ quotientBits
      f.round c (sa ^^ sb) (n / mb) (ea - eb - quotientBits) (n % mb != 0)

/-- The integer square root below `2^k`, bit by bit from bit k-1: the largest r with r² <= n. -/
def isqrt (n : Nat) : Nat → Nat → Nat
  | 0, r => r
  | k + 1, r => isqrt n k (if (r + 2 ^ k) * (r + 2 ^ k) ≤ n then r + 2 ^ k else r)

/-- √a (R644). -/
def FpFmt.sqrt (f : FpFmt) (c : FpMode) (qnan : DWord) (a : FpVal) : BitVec 6 × DWord :=
  match a with
  | .nan _ => (fpV, qnan)
  | .inf s => if s then (fpV, qnan) else (0, f.infinity false)
  | .fin s m e =>
    if m = 0 then (0, f.zero s)
    else if s then (fpV, qnan)
    else
      let k : Nat := if e % 2 = 0 then 64 else 65
      let n := m * 2 ^ k
      let r := isqrt n 60 0
      f.round c false r ((e - k) / 2) (r * r != n)

/-- A value of another format, or an integer, in this one (R660, R661). -/
def FpFmt.convert (f : FpFmt) (c : FpMode) (qnan : DWord) (a : FpVal) : BitVec 6 × DWord :=
  match a with
  | .nan _ => (fpV, qnan)
  | .inf s => (0, f.infinity s)
  | .fin s m e => if m = 0 then (0, f.zero s) else f.round c s m e false

/-- An integer in this format; 0 gives +0 (R660, R661). -/
def FpFmt.ofInt (f : FpFmt) (c : FpMode) (n : Int) : BitVec 6 × DWord := f.roundInt c n 0 false

/-- `RoundToInteger` of a finite value in a mode; and whether it differs (R649). -/
def roundToInt (rm : BitVec 2) (s : Bool) (m : Nat) (e : Int) : Int × Bool :=
  let (q, inexact) := if 0 ≤ e then (m * 2 ^ e.toNat, false) else roundShift rm s m (-e).toNat false
  (if s then -(q : Int) else q, inexact)

/-- A conversion to an `n`-bit integer (R649): a NaN, an infinity or a value out of range is E, or V with the
largest integer if FIXED_CONVERT_OUT_OF_RANGE is `invalid` (47_fpu_state_formats R582). -/
def toFixed (n : Nat) (rm : BitVec 2) (invalid : Bool) (a : FpVal) : BitVec 6 × DWord :=
  let bad : BitVec 6 × DWord := (if invalid then fpV else fpE, BitVec.ofNat 64 (2 ^ (n - 1) - 1))
  match a with
  | .nan _ => bad
  | .inf _ => bad
  | .fin s m e =>
    let (v, inexact) := roundToInt rm s m e
    if overflows n v then bad else (if inexact then fpI else 0, BitVec.ofInt 64 v)

/-- The order of non-NaN patterns: their magnitude field as an integer, negative if the sign is set; the two zeros
are equal (R670). -/
def FpFmt.orderKey (f : FpFmt) (v : Nat) : Int :=
  let m : Int := (v % 2 ^ (f.ebits + f.fbits) : Nat)
  if f.signBit v then -m else m

/-- Whether a value is a NaN. -/
def FpVal.isNan : FpVal → Bool
  | .nan _ => true
  | _ => false

/-- A comparison: the conditions and the truth of the predicate (R670). -/
def FpFmt.compare (f : FpFmt) (cond : BitVec 4) (a b : Nat) : BitVec 6 × Bool :=
  if (f.value a).isNan || (f.value b).isNan then
    (if cond.getLsbD 3 then fpV else 0, cond.getLsbD 0)
  else
    (0, (cond.getLsbD 2 && decide (f.orderKey a < f.orderKey b))
      || (cond.getLsbD 1 && decide (f.orderKey a = f.orderKey b)))

end Sys2Proof.Machine
end

