-- ==== Sys2Proof/Machine/Translate.lean ====
section
/-! DEFINITION. Address translation (21_mmu_tlb): segments by mode, the TLB match, the translation
algorithm R210, and the TLB entry images the TLB instructions move. -/
namespace Sys2Proof.Machine

/-- The three kinds of reference (00_scope R19). -/
inductive AccessKind where
  | fetch | load | store
  deriving DecidableEq, Repr

/-- Who reads the mode, ASID and K0 for a reference. -/
def AccessKind.reader : AccessKind → Reader
  | .fetch => .fetch
  | _ => .data

/-- Who reads the 64-bit enables for a reference. -/
def AccessKind.widthReader : AccessKind → Reader
  | .fetch => .fetchWidth
  | _ => .dataWidth

/-- Whether an exception of this reference is reported as a store. -/
def AccessKind.isStore (k : AccessKind) : Bool := k == .store

/-- What the segment map says of an address (21_mmu_tlb R210 step 2). -/
inductive Seg where
  | illegal
  | unmapped (pa : PAddr) (attr : BitVec 3)
  | mapped
  deriving DecidableEq, Repr

/-- User mode (21_mmu_tlb R182, R195). -/
def segUser (x : Bool) (va : DWord) : Seg :=
  if x then (if va.extractLsb' 40 24 = 0 then .mapped else .illegal)
  else if isSext32 va && !va.getLsbD 31 then .mapped else .illegal

/-- Supervisor mode (21_mmu_tlb R183, R195). -/
def segSupervisor (x : Bool) (va : DWord) : Seg :=
  if x then
    if (va.extractLsb' 62 2 = 0 || va.extractLsb' 62 2 = 1) && va.extractLsb' 40 22 = 0 then .mapped
    else if va.extractLsb' 29 35 = 0x7FFFFFFFE#35 then .mapped
    else .illegal
  else if isSext32 va && (!va.getLsbD 31 || va.extractLsb' 29 3 = 6) then .mapped else .illegal

/-- The 512-Mbyte kernel segments above 2^31, selected by address bits 30:29 (21_mmu_tlb R184, R185 to R187). -/
def segCompat (k0 : BitVec 3) (va : DWord) : Seg :=
  if va.extractLsb' 29 2 = 0 then .unmapped ((va.extractLsb' 0 29).setWidth 36) k0
  else if va.extractLsb' 29 2 = 1 then .unmapped ((va.extractLsb' 0 29).setWidth 36) 2
  else .mapped

/-- Kernel mode (21_mmu_tlb R184 to R191, R195). -/
def segKernel (x erl : Bool) (k0 : BitVec 3) (va : DWord) : Seg :=
  if x then
    let top := va.extractLsb' 62 2
    if top = 0 then
      if va.extractLsb' 40 22 = 0 then
        if erl && va.extractLsb' 31 9 = 0 then .unmapped ((va.extractLsb' 0 31).setWidth 36) 2 else .mapped
      else .illegal
    else if top = 1 then (if va.extractLsb' 40 22 = 0 then .mapped else .illegal)
    else if top = 2 then
      if va.extractLsb' 36 23 = 0 then .unmapped (va.extractLsb' 0 36) (va.extractLsb' 59 3) else .illegal
    else if va.extractLsb' 31 33 = BitVec.allOnes 33 then segCompat k0 va
    else if va.toNat ≤ 0xC00000FF7FFFFFFF then .mapped else .illegal
  else if !isSext32 va then .illegal
  else if !va.getLsbD 31 then
    if erl then .unmapped ((va.extractLsb' 0 31).setWidth 36) 2 else .mapped
  else segCompat k0 va

/-- The segment of an address, for the mode and width of a Status word and a K0 field. Without a mode
(KSU = 11) every address is illegal (93_implementation_defined U13). -/
def segment (modeSt extSt : Word) (k0 : BitVec 3) (va : DWord) : Seg :=
  let m := modeOf modeSt
  let x := extendedOf m extSt
  match m with
  | some .kernel => segKernel x (stERL modeSt) k0 va
  | some .supervisor => segSupervisor x va
  | some .user => segUser x va
  | none => .illegal

/-- The seven legal page masks (11_cp0_registers R78). -/
def legalMask (m : BitVec 12) : Bool :=
  m = 0 || m = 0x003 || m = 0x00F || m = 0x03F || m = 0x0FF || m = 0x3FF || m = 0xFFF

/-- Whether a TLB entry matches (21_mmu_tlb R203). -/
def TlbEntry.hits (e : TlbEntry) (r : BitVec 2) (vpn2 : BitVec 27) (asid : BitVec 8) : Bool :=
  let m : BitVec 27 := e.mask.setWidth 27
  (e.vpn2 &&& ~~~ m) == (vpn2 &&& ~~~ m) && e.r == r && (e.g || e.asid == asid)

/-- Entry `i` as a TLB lookup sees it: whether it matches; with an illegal mask that is open (U14). -/
def State.entryHits (s : State) (who : Reader) (i : Nat) (e : TlbEntry) (r : BitVec 2) (vpn2 : BitVec 27)
    (asid : BitVec 8) : Bool :=
  if legalMask e.mask then e.hits r vpn2 asid else s.pick (.illegalMask who i)

/-- TLB entry `i` as a reference of kind `k` sees it: a fetch within two instructions of a TLB write draws
between old and new, for each write of the entry by itself (70_reset_and_hazards R860). -/
def State.tlbSeen (s : State) (k : AccessKind) (i : Nat) (e : TlbEntry) : TlbEntry :=
  if k = .fetch then
    s.hist.foldl (init := e) fun v h =>
      match h.what with
      | .tlb i' old =>
        if i' = i && inWindow 2 h.age && s.pick (.hazardTlb i h.age) then old else v
      | _ => v
  else e

/-- The matching entries, with their numbers. -/
def State.tlbMatches (s : State) (k : AccessKind) (r : BitVec 2) (vpn2 : BitVec 27) (asid : BitVec 8) :
    List (Nat × TlbEntry) :=
  (s.tlb.toList.mapIdx fun i e => (i, s.tlbSeen k i e)).filter fun p =>
    s.entryHits k.reader p.1 p.2 r vpn2 asid

/-- A physical address and attribute, or an exception (00_scope R19). -/
inductive Trans where
  | ok (pa : PAddr) (attr : BitVec 3)
  | exc (e : Exc)
  deriving DecidableEq, Repr

/-- Attributes 4 to 7 behave as 3 (21_mmu_tlb R194, D19). -/
def attrOf (c : BitVec 3) : BitVec 3 := if c.toNat ≥ 4 then 3 else c

/-- The undefined translation of 21_mmu_tlb R204 (U30), of an illegal mask (U14), or after TLBP (U39): any doubleword
and attribute. The three address bits below a doubleword are `va`'s, so that the access stays inside an aligned
doubleword, as 20_memory R151 says of every access (DESIGN CHOICE, log 14). -/
def State.freeTranslation (s : State) (k : AccessKind) (va : DWord) : Trans :=
  let w := s.freeWord (.translation k.reader)
  .ok (w.extractLsb' 3 33 ++ va.extractLsb' 0 3) (attrOf (w.extractLsb' 36 3))

/-- The offset bits of a page of this mask: `va[s-1:0]` (21_mmu_tlb R207). -/
def offsetMask (mask : BitVec 12) : PAddr := (mask.setWidth 36 <<< 12) ||| 0xFFF#36

/-- Whether the odd page of the pair is selected: bit `va[s]`, the bit above the offset (21_mmu_tlb R207). -/
def oddPage (mask : BitVec 12) (va : DWord) : Bool :=
  (va.setWidth 36 &&& (offsetMask mask + 1)) != 0

/-- Steps 4 and 5 of 21_mmu_tlb R210, through one matching entry. -/
def TlbEntry.translate (e : TlbEntry) (k : AccessKind) (va : DWord) : Trans :=
  let half := if oddPage e.mask va then e.lo1 else e.lo0
  if !half.v then .exc (.tlbInvalid va k.isStore)
  else if k.isStore && !half.d then .exc (.tlbModified va)
  else
    let off := offsetMask e.mask
    .ok ((((half.pfn.setWidth 36) <<< 12) &&& ~~~ off) ||| (va.setWidth 36 &&& off)) (attrOf half.c)

/-- The translation of a mapped address (21_mmu_tlb R210 steps 3 to 5). -/
def State.translateMapped (s : State) (k : AccessKind) (asid : BitVec 8) (va : DWord) : Trans :=
  match s.tlbMatches k (va.extractLsb' 62 2) (va.extractLsb' 13 27) asid with
  | [] => .exc (.tlbRefill va k.isStore)
  | [(_, e)] => if legalMask e.mask then e.translate k va else s.freeTranslation k va
  | _ => s.freeTranslation k va

/-- Whether this is the instruction right after a TLBP (70_reset_and_hazards R860). -/
def State.afterTlbp (s : State) : Bool :=
  s.hist.any fun h => h.what == .tlbp && inWindow 1 h.age

/-- `Translate(va, kind)` (21_mmu_tlb R210). A load, store or CACHE right after a TLBP, at whatever address, and a fetch
there from a mapped page may translate openly (70_reset_and_hazards R860, U39). -/
def State.translate (s : State) (k : AccessKind) (va : DWord) : Trans :=
  let who := k.reader
  let unspecified := s.afterTlbp && s.pick (.tlbpRef who)
  let k0 := (s.cp0Seen 16 who (zext64 s.cp0.config)).setWidth 3
  if unspecified && k != .fetch then s.freeTranslation k va
  else match segment (s.statusSeen who) (s.statusSeen k.widthReader) k0 va with
  | .illegal => .exc (.addressError va k.isStore)
  | .unmapped pa attr => .ok pa (attrOf attr)
  | .mapped =>
    if unspecified then s.freeTranslation k va
    else s.translateMapped k ((s.cp0Seen 10 who s.cp0.entryHi).setWidth 8) va

/-! ### TLB entries and the CP0 registers (21_mmu_tlb R201) -/

/-- A TLB half from an EntryLo register (11_cp0_registers R77). -/
def halfOfLo (lo : DWord) : TlbHalf :=
  { pfn := lo.extractLsb' 6 24, c := lo.extractLsb' 3 3, d := lo.getLsbD 2, v := lo.getLsbD 1 }

/-- An EntryLo register from a TLB half and the G bit (21_mmu_tlb R201). -/
def loOfHalf (h : TlbHalf) (g : Bool) : DWord :=
  zext64 (h.pfn ++ h.c ++ bit h.d ++ bit h.v ++ bit g)

/-- The entry TLBWI and TLBWR write: VPN2 loses the masked bits, G is the and of the two G bits
(21_mmu_tlb R201). -/
def tlbEntryOf (pageMask : Word) (entryHi lo0 lo1 : DWord) : TlbEntry :=
  let mask : BitVec 12 := pageMask.extractLsb' 13 12
  { mask := mask
    r := entryHi.extractLsb' 62 2
    vpn2 := entryHi.extractLsb' 13 27 &&& ~~~ (mask.setWidth 27)
    g := lo0.getLsbD 0 && lo1.getLsbD 0
    asid := entryHi.setWidth 8
    lo0 := halfOfLo lo0
    lo1 := halfOfLo lo1 }

/-- EntryHi as TLBR reads it from an entry: the bits under Mask cleared, G not visible
(45_cp0_system R509, 11_cp0_registers R82). -/
def entryHiOf (e : TlbEntry) : DWord :=
  (zext64 e.r <<< 62) ||| (zext64 (e.vpn2 &&& ~~~ (e.mask.setWidth 27)) <<< 13) ||| zext64 e.asid

/-- PageMask as TLBR reads it from an entry. -/
def pageMaskOf (e : TlbEntry) : Word := (e.mask.setWidth 32) <<< 13

end Sys2Proof.Machine
end

