-- ==== Sys2Proof/Machine/Operands.lean ====
section
/-! DEFINITION. Operand forms: the tests an instruction begins with (coprocessor usable, 64-bit operations
enabled), 32-bit operands, HI and LO, floating-point registers, effective addresses, byte lanes, and the memory
references of loads and stores (40_loads_stores R310 to R312, R325). -/
namespace Sys2Proof.Machine

/-! ### Tests before an instruction -/

/-- Reserved Instruction unless 64-bit operations are enabled (30_encoding R291). -/
def State.needs64 (s : State) (k : Result) : Result :=
  if s.ops64Enabled then k else s.except .reservedInstruction

/-- Coprocessor Unusable unless unit `z` is usable (46_coprocessor R529). -/
def State.needsCop (s : State) (z : Nat) (k : Result) : Result :=
  if s.copUsable z then k else s.except (.coprocessorUnusable (BitVec.ofNat 2 z))

/-! ### General register results -/

/-- GPR[r] := v and the instruction ends. -/
def State.setGpr (s : State) (r : Reg) (v : DWord) : Result := (s.writeGpr r v).done

/-- The result of a 32-bit operation, sign-extended; open if a source was not sign-extended (41_alu R360
item 2, D3). -/
def State.word32 (s : State) (sourcesOk : Bool) (v : Word) : DWord :=
  if sourcesOk then sext64 v else s.freeWord .arith32

/-- A 32-bit operation that traps on overflow; with a source that is not sign-extended the trap is open too. -/
def State.trap32 (s : State) (sourcesOk overflow : Bool) (rd : Reg) (v : Word) : Result :=
  if (if sourcesOk then overflow else s.pick .overflow32) then s.except .overflow
  else s.setGpr rd (s.word32 sourcesOk v)

/-- A 64-bit operation that traps on overflow. -/
def State.trap64 (s : State) (overflow : Bool) (rd : Reg) (v : DWord) : Result :=
  if overflow then s.except .overflow else s.setGpr rd v

/-! ### HI and LO (42_shifts_muldiv R430 to R434) -/

/-- An instruction that writes HI or LO leaves the destinations of the MFHI or MFLO among the two instructions
before it open (R434 item 2). -/
def State.loseHiLoReads (s : State) (hi lo : Bool) : State :=
  s.hist.foldl (init := s) fun t h =>
    match h.what with
    | .hiLoRead isHi r =>
      if inWindow 2 h.age && (if isHi then hi else lo) then t.writeGpr r (s.freeWord (.hiLoRead isHi r)) else t
    | _ => t

/-- HI and LO := the result of a multiply or divide. -/
def State.setHiLo (s : State) (hi lo : DWord) : Result :=
  { s.loseHiLoReads true true with hi := hi, lo := lo, hiloFresh := true }.done

/-- HI and LO := the sign-extended results of a 32-bit multiply or divide, open if a source was not
sign-extended or the divisor was zero (42_shifts_muldiv R420, R424). -/
def State.setHiLo32 (s : State) (defined : Bool) (hi lo : Word) : Result :=
  if defined then s.setHiLo (sext64 hi) (sext64 lo)
  else s.setHiLo (s.freeWord .mulDivHi) (s.freeWord .mulDivLo)

/-- HI and LO := the results of a 64-bit divide, open if the divisor was zero. -/
def State.setHiLo64 (s : State) (defined : Bool) (hi lo : DWord) : Result :=
  if defined then s.setHiLo hi lo else s.setHiLo (s.freeWord .mulDivHi) (s.freeWord .mulDivLo)

/-- GPR[rd] := HI or LO; remembered for the two next instructions (R430, R431, R434). -/
def State.readHiLo (s : State) (isHi : Bool) (rd : Reg) : Result :=
  let s1 := { s.writeGpr rd (if isHi then s.hi else s.lo) with hiloFresh := false }
  (s1.note (.hiLoRead isHi rd)).done

/-! ### Floating-point registers (47_fpu_state_formats R560 to R562) -/

/-- Status.FR (with the window of D43). -/
def State.frSeen (s : State) : Bool := stFR (s.statusSeen .fpu)

/-- The physical register `n` as an instruction reads it: right after MTC1 or DMTC1 to it, a draw between old
and new (70_reset_and_hazards R852). -/
def State.readFgr (s : State) (n : Reg) : DWord :=
  s.hist.foldl (init := s.fgr[n.toNat]'(n.isLt)) fun v h =>
    match h.what with
    | .fgr n' old => if n' = n && inWindow 1 h.age && s.pick (.hazardFgr n) then old else v
    | _ => v

/-- The physical register `n` := v. -/
def State.writeFgr (s : State) (n : Reg) (v : DWord) : State :=
  { s with fgr := s.fgr.set n.toNat v n.isLt }

/-- The physical register of a 64-bit access: with FR = 0 the even one of the pair. For an odd number this is
the manual's own pseudocode (48_fpu_moves R612, D34 FR0_ODD_DOUBLE = ignore_bit0). -/
def fprIndex (fr : Bool) (n : Reg) : Reg := if fr then n else n &&& 0x1E

/-- `ValueFPR(n, S or W)`. -/
def State.fpr32 (s : State) (n : Reg) : Word :=
  let v := s.readFgr (fprIndex s.frSeen n)
  if !s.frSeen && n.getLsbD 0 then high32 v else low32 v

/-- `ValueFPR(n, D or L)`. -/
def State.fpr64 (s : State) (n : Reg) : DWord := s.readFgr (fprIndex s.frSeen n)

/-- Whether a D or L operand or result in register `n` is not defined: an odd number with FR = 0 (R562). -/
def State.oddFpr (s : State) (n : Reg) : Bool := !s.frSeen && n.getLsbD 0

/-- The 64 bits of a physical register after a 32-bit write of `v` to register number `n`: with FR = 1 the upper
half is open, with FR = 0 one half changes (R561). -/
def State.fgrAfter32 (s : State) (n : Reg) (v : Word) : DWord :=
  let old := s.fgr[(fprIndex s.frSeen n).toNat]'((fprIndex s.frSeen n).isLt)
  if s.frSeen then high32 (s.freeWord (.fgrUpper n)) ++ v
  else if n.getLsbD 0 then v ++ low32 old
  else high32 old ++ v

/-- `StoreFPR(n, S or W, v)`. -/
def State.setFpr32 (s : State) (n : Reg) (v : Word) : State :=
  s.writeFgr (fprIndex s.frSeen n) (s.fgrAfter32 n v)

/-- `StoreFPR(n, D or L, v)`. -/
def State.setFpr64 (s : State) (n : Reg) (v : DWord) : State := s.writeFgr (fprIndex s.frSeen n) v

/-- A coprocessor move to physical register `n` that the next instruction may not see
(70_reset_and_hazards R852): `old` is the state before the move. -/
def State.noteFgr (s old : State) (n : Reg) : State :=
  if s.cfg.moveDelayInterlocked then s else s.note (.fgr n (old.fgr[n.toNat]'(n.isLt)))

/-! ### Addresses and byte lanes (20_memory R141, R142; 40_loads_stores R310, R311) -/

/-- The effective address (R310). -/
def State.ea (s : State) (base : Reg) (offset : BitVec 16) : DWord := s.readGpr base + sext64 offset

/-- `ReverseEndian`: Status.RE in User mode (20_memory R141). -/
def State.reverseEndian (s : State) : Bool :=
  let st := s.statusSeen .data
  stRE st && modeOf st = some .user

/-- `BigEndianCPU` (20_memory R142). -/
def State.bigEndianCPU (s : State) : Bool := s.cfg.bigEndian ^^ s.reverseEndian

/-- The exclusive-or mask of the low three address bits for a datum of `n` bytes (1, 2, 4 or 8). -/
def laneMask (n : Nat) : BitVec 3 := BitVec.ofNat 3 (8 - n)

/-- The lowest byte lane of an aligned datum of `n` bytes at `va`: the manual's `byte` (40_loads_stores R314 to
R318). -/
def laneAt (bigEndian : Bool) (va : DWord) (n : Nat) : Nat :=
  (va.extractLsb' 0 3 ^^^ (if bigEndian then laneMask n else 0)).toNat

/-- The address sent to memory for an aligned datum of `n` bytes (40_loads_stores R311). -/
def busAddr (reverse : Bool) (pa : PAddr) (n : Nat) : PAddr :=
  pa ^^^ (if reverse then (laneMask n).setWidth 36 else 0)

/-! ### References -/

/-- Address Error unless `va` is a multiple of `n` (40_loads_stores R312 item 2). -/
def State.aligned (s : State) (va : DWord) (n : Nat) (store : Bool) : Res Unit :=
  if va.toNat % n = 0 then .ok () s else .stop (s.except (.addressError va store))

/-- A translation, or its exception (21_mmu_tlb R210). -/
def State.xlate (s : State) (k : AccessKind) (va : DWord) : Res (PAddr × BitVec 3) :=
  match s.translate k va with
  | .ok pa attr => .ok (pa, attr) s
  | .exc e => .stop (s.except e)

/-- The alignment test and the translation of a datum of `n` bytes. -/
def State.reference (s : State) (k : AccessKind) (va : DWord) (n : Nat) : Res (PAddr × BitVec 3) :=
  (s.aligned va n k.isStore).bind fun _ s1 => s1.xlate k va

/-- The aligned datum of `n` bytes at a translated address, in the low bits (R311); the bits above it are those of
the lanes above. -/
def State.readDatum (s : State) (va : DWord) (n : Nat) (t : PAddr × BitVec 3) : Res DWord :=
  (s.memRead va (busAddr s.reverseEndian t.1 n) n t.2).bind fun d s1 =>
    .ok (d >>> (8 * laneAt s.bigEndianCPU va n)) s1

/-- The low `n` bytes of `v` stored at a translated address. -/
def State.writeDatum (s : State) (va : DWord) (n : Nat) (v : DWord) (t : PAddr × BitVec 3) : Res Unit :=
  s.memWrite va (busAddr s.reverseEndian t.1 n) n (v <<< (8 * laneAt s.bigEndianCPU va n)) t.2

/-- An aligned load. -/
def State.loadDatum (s : State) (va : DWord) (n : Nat) : Res DWord :=
  (s.reference .load va n).bind fun t s1 => s1.readDatum va n t

/-- An aligned store. -/
def State.storeDatum (s : State) (va : DWord) (n : Nat) (v : DWord) : Res Unit :=
  (s.reference .store va n).bind fun t s1 => s1.writeDatum va n v t

/-- A load whose datum goes to GPR[rt] through `ext`. -/
def State.loadTo (s : State) (base rt : Reg) (offset : BitVec 16) (n : Nat) (ext : DWord → DWord) : Result :=
  (s.loadDatum (s.ea base offset) n).finish fun d s1 => s1.setGpr rt (ext d)

/-- A store of the low `n` bytes of GPR[rt]. -/
def State.storeFrom (s : State) (base rt : Reg) (offset : BitVec 16) (n : Nat) : Result :=
  (s.storeDatum (s.ea base offset) n (s.readGpr rt)).finish fun _ s1 => s1.done

/-! ### Unaligned loads and stores (40_loads_stores R325 to R333) -/

/-- The manual's `byte` within a unit of `n` bytes (4 or 8). -/
def byteIn (bigEndian : Bool) (va : DWord) (n : Nat) : Nat :=
  let b := va.toNat % n
  if bigEndian then n - 1 - b else b

/-- The manual's `word`. -/
def wordIn (bigEndian : Bool) (va : DWord) : Nat := (bit (va.getLsbD 2 ^^ bigEndian)).toNat

/-- Where the word (`n` = 4) or doubleword (`n` = 8) of `va` begins among the 64 bits of its doubleword. -/
def unitShift (bigEndian : Bool) (va : DWord) (n : Nat) : Nat :=
  if n = 4 then 32 * wordIn bigEndian va else 0

/-- The address sent to memory (R325): left forms clear the low bits when memory is little-endian, right forms
when it is big-endian. -/
def partialAddr (reverse bigEndianMem left : Bool) (pa : PAddr) (n : Nat) : PAddr :=
  let p := busAddr reverse pa 1
  if left ^^ bigEndianMem then p &&& ~~~ (BitVec.ofNat 36 (n - 1)) else p

/-- How many bytes a left or right form moves. -/
def partialCount (left : Bool) (n byte : Nat) : Nat := if left then byte + 1 else n - byte

/-- The `8n` low bits of `old` with the bytes a left or right load moves replaced from the unit `m`
(R326, R327, R330, R331). -/
def mergeLoad (left : Bool) (n byte : Nat) (m old : DWord) : DWord :=
  if left then
    let k := 8 * (n - 1 - byte)
    (m <<< k) ||| (old &&& ((1 <<< k) - 1))
  else
    let k := 8 * byte
    let unit : DWord := if n = 4 then 0xFFFFFFFF#64 else BitVec.allOnes 64
    ((m &&& unit) >>> k) ||| (old &&& ~~~ (unit >>> k))

/-- The unit a left or right store sends, its moved bytes in their lanes (R328, R329, R332, R333). -/
def splitStore (left : Bool) (n byte : Nat) (v : DWord) : DWord :=
  if left then
    let unit : DWord := if n = 4 then 0xFFFFFFFF#64 else BitVec.allOnes 64
    (v &&& unit) >>> (8 * (n - 1 - byte))
  else v <<< (8 * byte)

/-- LWL, LWR, LDL, LDR: the merged unit goes to GPR[rt], a word sign-extended. -/
def State.loadPartial (s : State) (base rt : Reg) (offset : BitVec 16) (left : Bool) (n : Nat) : Result :=
  let va := s.ea base offset
  let be := s.bigEndianCPU
  let byte := byteIn be va n
  (s.xlate .load va).finish fun t s1 =>
    (s1.memRead va (partialAddr s.reverseEndian s.cfg.bigEndian left t.1 n) (partialCount left n byte)
        t.2).finish fun d s2 =>
      let r := mergeLoad left n byte (d >>> unitShift be va n) (s.readGpr rt)
      s2.setGpr rt (if n = 4 then sext64 (low32 r) else r)

/-- SWL, SWR, SDL, SDR. -/
def State.storePartial (s : State) (base rt : Reg) (offset : BitVec 16) (left : Bool) (n : Nat) : Result :=
  let va := s.ea base offset
  let be := s.bigEndianCPU
  let byte := byteIn be va n
  (s.xlate .store va).finish fun t s1 =>
    (s1.memWrite va (partialAddr s.reverseEndian s.cfg.bigEndian left t.1 n) (partialCount left n byte)
        (splitStore left n byte (s.readGpr rt) <<< unitShift be va n) t.2).finish fun _ s2 => s2.done

end Sys2Proof.Machine
end

