-- ==== Sys2Proof/Machine/FpuArith.lean ====
section
/-! DEFINITION. Floating-point arithmetic, conversion and compare (49_fpu_arith_convert_compare) and MOV.fmt. -/
namespace Sys2Proof.Machine

/-! ### Common evaluation (49_fpu_arith_convert_compare R630) -/

/-- The binary floating-point format of a format code (R568 Table B.4). -/
def fpFormat (fmt : BitVec 5) : Option FpFmt :=
  if fmt = 16 then some fmtS else if fmt = 17 then some fmtD else none

/-- Whether a format is 64 bits wide. -/
def FpFmt.wide (f : FpFmt) : Bool := f.width == 64

/-- The rounding mode, FS and Enable U in force. -/
def State.fpMode (s : State) : FpMode :=
  { rm := fcrRM s.fcrSeen, flush := fcrFS s.fcrSeen, trapU := (fcrEnables s.fcrSeen).getLsbD 1 }

/-- The default quiet NaN of a format (47_fpu_state_formats R567). -/
def State.qnan (s : State) (f : FpFmt) : DWord := if f.wide then s.cfg.qnanD else zext64 s.cfg.qnanS

/-- Steps 1 and 2: coprocessor 1 usable, then 64-bit operations enabled if the operation needs them. -/
def State.fpStart (s : State) (wideOp : Bool) (k : Result) : Result :=
  s.needsCop 1 (if wideOp then s.needs64 k else k)

/-- Unimplemented Operation. -/
def State.fpUnimplemented (s : State) : Result := s.fpFinish fpE id

/-- A function code that is reserved (30_encoding R289 key δ): the tests of R630, then Unimplemented Operation. -/
def State.fpReserved (s : State) (fmt : BitVec 5) : Result := s.fpStart (fmt == 21) s.fpUnimplemented

/-- The operand of a format in register `n`, as a bit pattern. -/
def State.fpOperand (s : State) (f : FpFmt) (n : Reg) : Nat :=
  if f.wide then (s.fpr64 n).toNat else (s.fpr32 n).toNat

/-- A result stored in register `n`. -/
def State.fpStore (wide : Bool) (n : Reg) (v : DWord) (t : State) : State :=
  if wide then t.setFpr64 n v else t.setFpr32 n (low32 v)

/-- Step 5: an operand the hardware does not handle, denormalized or a quiet NaN (47_fpu_state_formats R580). -/
def FpFmt.screened (f : FpFmt) (v : Nat) : Bool := f.denormal v || f.value v == .nan false

/-- An operation of one operand from format `f` (steps 4 to 9): `op` gives the conditions and the result. -/
def State.fpUnary (s : State) (f : FpFmt) (destWide : Bool) (fs fd : Reg) (op : Nat → BitVec 6 × DWord) :
    Result :=
  if (f.wide && s.oddFpr fs) || (destWide && s.oddFpr fd) then
    s.fpOdd (State.fpStore destWide fd (s.freeWord .oddResult))
  else
    let a := s.fpOperand f fs
    if f.screened a then s.fpUnimplemented
    else s.fpFinish (op a).1 (State.fpStore destWide fd (op a).2)

/-- An arithmetic operation of one operand: format S or D. -/
def State.fpArith1 (s : State) (fmt : BitVec 5) (fs fd : Reg) (op : FpFmt → DWord → Nat → BitVec 6 × DWord) :
    Result :=
  s.fpStart (fmt == 21) <|
    match fpFormat fmt with
    | none => s.fpUnimplemented
    | some f => s.fpUnary f f.wide fs fd (op f (s.qnan f))

/-- An arithmetic operation of two operands: format S or D. -/
def State.fpArith2 (s : State) (fmt : BitVec 5) (ft fs fd : Reg)
    (op : FpFmt → FpMode → DWord → FpVal → FpVal → BitVec 6 × DWord) : Result :=
  s.fpStart (fmt == 21) <|
    match fpFormat fmt with
    | none => s.fpUnimplemented
    | some f =>
      if f.wide && (s.oddFpr fs || s.oddFpr ft || s.oddFpr fd) then
        s.fpOdd (State.fpStore f.wide fd (s.freeWord .oddResult))
      else
        let a := s.fpOperand f fs
        let b := s.fpOperand f ft
        if f.screened a || f.screened b then s.fpUnimplemented
        else
          let r := op f s.fpMode (s.qnan f) (f.value a) (f.value b)
          s.fpFinish r.1 (State.fpStore f.wide fd r.2)

/-- A conversion to an integer of 32 bits (W) or 64 bits (L) in a rounding mode (R649). The L forms are 64-bit
operations. A quiet NaN is out of range like any other NaN (47_fpu_state_formats R580 item 5, R582). -/
def State.fpToFixed (s : State) (long : Bool) (fmt : BitVec 5) (fs fd : Reg) (rm : BitVec 2) : Result :=
  s.fpStart (long || fmt == 21) <|
    match fpFormat fmt with
    | none => s.fpUnimplemented
    | some f =>
      if (f.wide && s.oddFpr fs) || (long && s.oddFpr fd) then
        s.fpOdd (State.fpStore long fd (s.freeWord .oddResult))
      else
        let a := s.fpOperand f fs
        if f.denormal a then s.fpUnimplemented
        else
          let r := toFixed (if long then 64 else 32) rm s.cfg.fixedConvertInvalid (f.value a)
          s.fpFinish r.1 (State.fpStore long fd r.2)

/-- A conversion from an integer to format `g`: `long` for a 64-bit source. -/
def State.fpFromFixed (s : State) (g : FpFmt) (long : Bool) (fs fd : Reg) : Result :=
  if (long && s.oddFpr fs) || (g.wide && s.oddFpr fd) then
    s.fpOdd (State.fpStore g.wide fd (s.freeWord .oddResult))
  else
    let n : Int := if long then (s.fpr64 fs).toInt else (s.fpr32 fs).toInt
    let r := g.ofInt s.fpMode n
    s.fpFinish r.1 (State.fpStore g.wide fd r.2)

/-- A conversion to the floating-point format `g` from the other format `src`, W or L (R660, R661). -/
def State.fpToFloat (s : State) (g src : FpFmt) (srcCode : BitVec 5) (fmt : BitVec 5) (fs fd : Reg) : Result :=
  s.fpStart (fmt == 21) <|
    if fmt = srcCode then
      s.fpUnary src g.wide fs fd fun a => g.convert s.fpMode (s.qnan g) (src.value a)
    else if fmt = 20 then s.fpFromFixed g false fs fd
    else if fmt = 21 then s.fpFromFixed g true fs fd
    else s.fpUnimplemented

/-! ### Arithmetic -/

/-- ADD.fmt (49_fpu_arith_convert_compare R640). -/
def execAddFmt (fmt : BitVec 5) (ft fs fd : Reg) (s : State) : Result :=
  s.fpArith2 fmt ft fs fd FpFmt.add

/-- SUB.fmt (49_fpu_arith_convert_compare R641). -/
def execSubFmt (fmt : BitVec 5) (ft fs fd : Reg) (s : State) : Result :=
  s.fpArith2 fmt ft fs fd FpFmt.sub

/-- MUL.fmt (49_fpu_arith_convert_compare R642). -/
def execMulFmt (fmt : BitVec 5) (ft fs fd : Reg) (s : State) : Result :=
  s.fpArith2 fmt ft fs fd FpFmt.mul

/-- DIV.fmt (49_fpu_arith_convert_compare R643). -/
def execDivFmt (fmt : BitVec 5) (ft fs fd : Reg) (s : State) : Result :=
  s.fpArith2 fmt ft fs fd FpFmt.div

/-- SQRT.fmt (49_fpu_arith_convert_compare R644). -/
def execSqrtFmt (fmt : BitVec 5) (fs fd : Reg) (s : State) : Result :=
  s.fpArith1 fmt fs fd fun f q a => f.sqrt s.fpMode q (f.value a)

/-- A change of sign: exact, but a signaling NaN is invalid (49_fpu_arith_convert_compare R645, R646). -/
def FpFmt.changeSign (f : FpFmt) (qnan : DWord) (a : Nat) (sign : Bool) : BitVec 6 × DWord :=
  if (f.value a).isNan then (fpV, qnan) else (0, f.pack sign (f.expField a) (f.fracField a))

/-- ABS.fmt (49_fpu_arith_convert_compare R645). -/
def execAbsFmt (fmt : BitVec 5) (fs fd : Reg) (s : State) : Result :=
  s.fpArith1 fmt fs fd fun f q a => f.changeSign q a false

/-- NEG.fmt (49_fpu_arith_convert_compare R646). -/
def execNegFmt (fmt : BitVec 5) (fs fd : Reg) (s : State) : Result :=
  s.fpArith1 fmt fs fd fun f q a => f.changeSign q a (!f.signBit a)

/-- MOV.fmt (48_fpu_moves R624): no operand raises anything; Cause becomes 0 (D33). -/
def execMovFmt (fmt : BitVec 5) (fs fd : Reg) (s : State) : Result :=
  s.fpStart (fmt == 21) <|
    match fpFormat fmt with
    | none => s.fpUnimplemented
    | some f =>
      if f.wide && (s.oddFpr fs || s.oddFpr fd) then
        s.fpOdd (State.fpStore f.wide fd (s.freeWord .oddResult))
      else s.fpFinish 0 (State.fpStore f.wide fd (BitVec.ofNat 64 (s.fpOperand f fs)))

/-! ### Conversions -/

/-- ROUND.L.fmt (49_fpu_arith_convert_compare R650). -/
def execRoundLFmt (fmt : BitVec 5) (fs fd : Reg) (s : State) : Result :=
  s.fpToFixed true fmt fs fd 0

/-- ROUND.W.fmt (49_fpu_arith_convert_compare R654). -/
def execRoundWFmt (fmt : BitVec 5) (fs fd : Reg) (s : State) : Result :=
  s.fpToFixed false fmt fs fd 0

/-- TRUNC.L.fmt (49_fpu_arith_convert_compare R651). -/
def execTruncLFmt (fmt : BitVec 5) (fs fd : Reg) (s : State) : Result :=
  s.fpToFixed true fmt fs fd 1

/-- TRUNC.W.fmt (49_fpu_arith_convert_compare R655). -/
def execTruncWFmt (fmt : BitVec 5) (fs fd : Reg) (s : State) : Result :=
  s.fpToFixed false fmt fs fd 1

/-- CEIL.L.fmt (49_fpu_arith_convert_compare R652). -/
def execCeilLFmt (fmt : BitVec 5) (fs fd : Reg) (s : State) : Result :=
  s.fpToFixed true fmt fs fd 2

/-- CEIL.W.fmt (49_fpu_arith_convert_compare R656). -/
def execCeilWFmt (fmt : BitVec 5) (fs fd : Reg) (s : State) : Result :=
  s.fpToFixed false fmt fs fd 2

/-- FLOOR.L.fmt (49_fpu_arith_convert_compare R653). -/
def execFloorLFmt (fmt : BitVec 5) (fs fd : Reg) (s : State) : Result :=
  s.fpToFixed true fmt fs fd 3

/-- FLOOR.W.fmt (49_fpu_arith_convert_compare R657). -/
def execFloorWFmt (fmt : BitVec 5) (fs fd : Reg) (s : State) : Result :=
  s.fpToFixed false fmt fs fd 3

/-- CVT.W.fmt (49_fpu_arith_convert_compare R662). -/
def execCvtWFmt (fmt : BitVec 5) (fs fd : Reg) (s : State) : Result :=
  s.fpToFixed false fmt fs fd s.fpMode.rm

/-- CVT.L.fmt (49_fpu_arith_convert_compare R663). -/
def execCvtLFmt (fmt : BitVec 5) (fs fd : Reg) (s : State) : Result :=
  s.fpToFixed true fmt fs fd s.fpMode.rm

/-- CVT.S.fmt (49_fpu_arith_convert_compare R660). -/
def execCvtSFmt (fmt : BitVec 5) (fs fd : Reg) (s : State) : Result :=
  s.fpToFloat fmtS fmtD 17 fmt fs fd

/-- CVT.D.fmt (49_fpu_arith_convert_compare R661). -/
def execCvtDFmt (fmt : BitVec 5) (fs fd : Reg) (s : State) : Result :=
  s.fpToFloat fmtD fmtS 16 fmt fs fd

/-! ### Compare -/

/-- FCR31.C := c; a branch right after it may still see the old condition (70_reset_and_hazards R854). -/
def State.setCond (c : Bool) (t : State) : State :=
  { t with fcr31 := putC t.fcr31 c }.note (.fcc (fcrC t.fcr31))

/-- C.cond.fmt (49_fpu_arith_convert_compare R670). -/
def execCCondFmt (fmt : BitVec 5) (ft fs : Reg) (cond : BitVec 4) (s : State) : Result :=
  s.fpStart (fmt == 21) <|
    match fpFormat fmt with
    | none => s.fpUnimplemented
    | some f =>
      if f.wide && (s.oddFpr fs || s.oddFpr ft) then
        s.fpOdd (State.setCond ((s.freeWord .oddResult).getLsbD 0))
      else
        let r := f.compare cond (s.fpOperand f fs) (s.fpOperand f ft)
        s.fpFinish r.1 (State.setCond r.2)

end Sys2Proof.Machine
end

