-- ==== Sys2Proof/Machine/Cycle.lean ====
section
/-! DEFINITION. One step of the machine around an instruction: inputs and external requests
(61_system_interface R796 to R800), resets and NMI (70_reset_and_hazards R830 to R836), standby, the timer
(60_exceptions R740), fetch and decode, interrupts (60_exceptions R698, R730 to R736). -/
namespace Sys2Proof.Machine

/-! ### The timer -/

/-- Count advances `k` times, compared with Compare each time (60_exceptions R740). -/
def State.countTicks (s : State) : Nat → State
  | 0 => s
  | k + 1 =>
    let n := s.cp0.count + 1
    State.countTicks { s with
      cp0 := { s.cp0 with count := n }, timerInt := s.timerInt || n == s.cp0.compare } k

/-- The end of a step: Count advances by its rate (D4), and the open values of the next step are new ones. -/
def State.tick (s : State) : State :=
  let p := s.countPhase + s.cfg.countNum
  { s.countTicks (p / s.cfg.countDen) with countPhase := p % s.cfg.countDen, free := s.free + 1 }

/-- The end of a step, for an outcome. -/
def endStep : Result → Result
  | .next s => .next s.tick
  | .fault f => .fault f
  | .refused r => .refused r

/-! ### External requests -/

/-- The Interrupt register after an external write: bits 22:16 enable, bits 6:0 are the values
(61_system_interface R800). -/
def writeIntReg (old : BitVec 7) (data : DWord) : BitVec 7 :=
  mergeMask (data.extractLsb' 16 7) old (data.extractLsb' 0 7)

/-- The nonmaskable interrupt level (60_exceptions R734). -/
def State.nmiLevel (s : State) : Bool := s.nmiPin || s.intReg.getLsbD 6

/-- Each change of the NMI level from 0 to 1 is one nonmaskable interrupt, kept until it is taken (60_exceptions
R734). A second change before it is taken is no second interrupt: the latch is one bit (DESIGN CHOICE, log 16). -/
def State.latchNmi (s : State) : State :=
  { s with nmiLatch := s.nmiLatch || (s.nmiLevel && !s.nmiPrev), nmiPrev := s.nmiLevel }

/-- The data cycle that answers an external read: erroneous, its data undefined (61_system_interface R796). -/
def State.readAnswer (s : State) : DataCycle :=
  let d := s.freeWord (.unusedLanes (s.cycleNo 0))
  { id := 0x120 ||| (s.reservedBits 0).setWidth 9, data := d, check := checkBits d }

/-- An external request is over: the interface returns to master state, and to slave state again if a read is pending
(61_system_interface R768, R794). -/
def State.extDone (s : State) : State := { s with slave := s.busWait.isSome && s.busReply.isNone }

/-- One command of the external agent (61_system_interface R796 to R800; R802 for what is undefined). Of the data
identifier of a write the model looks at the last-data bit alone: data marked erroneous or as response data is written
like any other (DESIGN CHOICE, log 8). -/
def State.extCommand (s : State) (addr : PAddr) (cycles : List DataCycle) : Option AgentCommand → Res Unit
  | some (.write 4) =>
    match cycles with
    | [c] =>
      if c.id.getLsbD 8 && idLast c.id then
        .ok () (if addr.extractLsb' 4 3 = 0 then { s with intReg := writeIntReg s.intReg c.data }.latchNmi
          else s).extDone
      else .stop (.refused .undefinedExternalRequest)
    | _ => .stop (.refused .undefinedExternalRequest)
  | some (.read 4) => .ok () { s with bus := .externalReadAnswer s.readAnswer :: s.bus }.extDone
  | some .null => .ok () s.extDone
  | _ => .stop (.refused .undefinedExternalRequest)

/-- What the external agent does: an external request, the response to the pending read (61_system_interface R783), or
a write to memory by another master. -/
def State.extRequest (s : State) : ExtRequest → Res Unit
  | .command cmd addr cycles => s.extCommand addr cycles (agentCommand cmd)
  | .response cycles =>
    match s.busWait, s.busReply with
    | some w, none =>
      if respFits w.req cycles then .ok () { s with busReply := some cycles, slave := false }
      else .stop (.refused .undefinedExternalRequest)
    | _, _ => .stop (.refused .undefinedExternalRequest)
  | .dma addr value => .ok () { s with mem := Memory.write s.mem addr.toNat value }

/-- The requests of one step, in order. -/
def State.extRequests : List ExtRequest → State → Res Unit
  | [], s => .ok () s
  | r :: t, s => (s.extRequest r).bind fun _ s' => State.extRequests t s'

/-! ### Resets and NMI -/

/-- An entry whose bytes are open. -/
def WEntry.scrambled (s : State) (i : Nat) : WEntry → WEntry
  | .word pa n _ => .word pa n (s.freeWord (.abortedWrite i 0))
  | .line pa _ p r slot =>
    .line pa (s.freeWord (.abortedWrite i 3) ++ s.freeWord (.abortedWrite i 2)
      ++ s.freeWord (.abortedWrite i 1) ++ s.freeWord (.abortedWrite i 0)) p r slot

/-- Memory after the write buffer is aborted: the bytes concerned are open (70_reset_and_hazards R832, D41). -/
def State.abortedMem (s : State) : List Host.Cell :=
  (s.wbuf.zipIdx).foldl (init := s.mem) fun m p =>
    if s.cfg.takes p.1 then (p.1.scrambled s p.2).apply s.cfg.bigEndian m else m

/-- Line `i` of a cache when a reset aborts its refill or write-back: every part of it is open; LLbit stays, even
if it was the linked line (70_reset_and_hazards R832, D41). -/
def State.abortLine (s : State) (instr : Bool) (i : Nat) : State :=
  let f := fun k => s.freeWord (.abortedLine instr i k)
  let w := f 4
  let data := f 3 ++ f 2 ++ f 1 ++ f 0
  if instr then
    s.putIline i { tag := w.setWidth 24, valid := w.getLsbD 24, par := w.extractLsb' 32 8, tagPar := w.getLsbD 25,
                   fifo := w.getLsbD 26, reserved := w.getLsbD 27, data := data }
  else
    s.putDline i
      { tag := w.setWidth 24, state := w.extractLsb' 24 2, w := w.getLsbD 26, par := (f 5).setWidth 32,
        tagPar := w.getLsbD 27, wPar := w.getLsbD 28, fifo := w.getLsbD 29, data := data }

/-- Where a buffered line came from. -/
def WEntry.slot : WEntry → Option (Bool × Nat)
  | .word _ _ _ => none
  | .line _ _ _ _ slot => some slot

/-- The cache lines an operation in progress touches: the one a pending read refills, and the one whose write-back still
stands in the write buffer (22_caches R238). -/
def State.busyLines (s : State) : List (Bool × Nat) := (s.busWait.bind (·.line)).toList ++ s.wbuf.filterMap (·.slot)

/-- What a reset aborts in the caches. -/
def State.abortLines (s : State) : State := s.busyLines.foldl (init := s) fun s p => s.abortLine p.1 p.2

/-- A boot-mode stream without reserved values (70_reset_and_hazards R836). -/
def streamOk (st : BitVec 256) : Bool :=
  !st.getLsbD 0 && (st.extractLsb' 1 4).toNat ≤ 8 && st.extractLsb' 5 3 != 7 && st.extractLsb' 9 2 != 1
    && !st.getLsbD 12 && st.extractLsb' 19 6 == 0 && st.getLsbD 25 && st.extractLsb' 26 230 == 0

/-- The parameters a boot-mode stream sets (70_reset_and_hazards R836). -/
def Params.boot (c : Params) (st : BitVec 256) : Params :=
  { c with
    bigEndian := st.getLsbD 8, sysCkRatio := st.extractLsb' 5 3, xmitDatPat := st.extractLsb' 1 4,
    nonblockWrite := st.extractLsb' 9 2, tmrIntEn := st.getLsbD 11 }

/-- Config after Reset (11_cp0_registers R100); K0 as in `Cp0.reset`. -/
def Params.configReg (c : Params) : Word :=
  0x64B0#32 ||| (c.sysCkRatio.setWidth 32 <<< 28) ||| (c.xmitDatPat.setWidth 32 <<< 24)
    ||| ((bit c.bigEndian).setWidth 32 <<< 15) ||| (Cp0.reset.config &&& configMask)

/-- A cold reset (70_reset_and_hazards R830): every register the spec leaves unspecified takes the model's reset
value (log 1); memory, the pins and the parameters outside the boot stream stay. -/
def State.coldReset (s : State) (st : BitVec 256) : Result :=
  if streamOk st then
    let cfg := s.cfg.boot st
    .next { State.reset with
      cp0 := { Cp0.reset with config := cfg.configReg, errorEpc := s.restartPc }
      cfg := cfg, mem := s.abortedMem, intPins := s.intPins, nmiPin := s.nmiPin, nmiPrev := s.nmiPin
      inputs := s.inputs, bus := s.bus, free := s.free }
  else .refused .reservedBootStream

/-- What Soft Reset and NMI do to the registers (70_reset_and_hazards R832 Figure 5.14). -/
def State.softEntry (s : State) : State :=
  { s with
    cp0 := { s.cp0 with
      errorEpc := s.restartPc
      status := (s.cp0.status &&& ~~~ 0x00200000#32) ||| 0x00500004#32 }
    pc := 0xFFFFFFFFBFC00000#64
    pending := none, hist := [], standby := false, nmiLatch := false }

/-- A soft reset: the write buffer, a pending read, and the refill and the write-back in progress are abandoned, and the
interface returns to master state (70_reset_and_hazards R832). -/
def State.softReset (s : State) : State :=
  { s.abortLines.softEntry with mem := s.abortedMem, wbuf := [], busWait := none, busReply := none, slave := false }

/-! ### Interrupts -/

/-- The interrupt enable as the interrupt test sees it: a newly set IE is not seen by the first instruction after
the MTC0, and may not be seen by the next two (70_reset_and_hazards R858). -/
def State.ieSeen (s : State) : Bool :=
  s.hist.foldl (init := stIE (s.statusSeen .interrupt)) fun v h =>
    match h.what with
    | .cp0 r old =>
      if r = 12 && stIE s.cp0.status && !stIE (low32 old) && inWindow 3 h.age then
        v && h.age != 1 && s.pick .hazardIe
      else v
    | _ => v

/-- `InterruptsEnabled` (60_exceptions R732). -/
def State.interruptsEnabled (s : State) : Bool :=
  let st := s.statusSeen .interrupt
  s.ieSeen && !stEXL st && !stERL st

/-- Cause.IP as the interrupt test sees it (60_exceptions R730). -/
def State.ipSeen (s : State) : BitVec 8 :=
  { s with timerInt := s.timerSeen .interrupt }.pendingLines
    ++ (s.cp0Seen 13 .interrupt (zext64 s.cp0.cause)).extractLsb' 8 2

/-- An enabled interrupt is pending (60_exceptions R732). -/
def State.takesInterrupt (s : State) : Bool :=
  s.interruptsEnabled && (s.ipSeen &&& stIM (s.statusSeen .interrupt)) != 0

/-- What ends standby: any interrupt source, masked or not, the NMI level, new or held (DESIGN CHOICE, log 17), or
ExtRqst (45_cp0_system R518, D27). A command of the external agent in a step in which ExtRqst is not asserted is carried
out and by itself does not end standby (DESIGN CHOICE, log 17). -/
def State.wakes (s : State) (i : Input) : Bool :=
  s.pendingLines != 0 || s.cp0.cause.extractLsb' 8 2 != 0 || s.nmiLevel || i.extRqst

/-! ### Fetch, decode, run -/

/-- A decoded word runs: an instruction by `run`, a reserved word by its exception (30_encoding R290). Where nonzero
unused fields are refused (D22), that comes before all else: before the usability test (D24), and before the format of
a COP1 word is looked at (DESIGN CHOICE, log 32). -/
def State.runDecoded (s : State) (run : Instr → State → Result) : Decoded → Result
  | .instr i => run i s
  | .unused i => if s.cfg.ignoreUnusedFields then run i s else .refused .unusedField
  | .reserved => s.except .reservedInstruction
  | .copReserved z => s.needsCop z.toNat (s.except .reservedInstruction)
  | .fpReserved fmt => s.fpReserved fmt

/-- The instruction word at pc, or the exception of its fetch (20_memory R147, R148). -/
def State.fetch (s : State) : Res Word :=
  (s.aligned s.pc 4 false).bind fun _ s1 =>
    (s1.xlate .fetch s.pc).bind fun t s2 => s2.fetchWord s.pc t.1 t.2

/-- An instruction whose data read waits keeps its word, to run again when the response comes. -/
def holdWord (w : Word) : Result → Result
  | .next s => .next { s with busWait := s.busWait.map fun b => { b with word := w } }
  | .fault f => .fault f
  | .refused r => .refused r

/-- Run a fetched word. -/
def State.runWord (s : State) (run : Instr → State → Result) (w : Word) : Result :=
  holdWord w (s.runDecoded run (decode w))

/-- Fetch, decode, run. -/
def State.runNext (s : State) (run : Instr → State → Result) : Result :=
  s.fetch.finish fun w s1 => s1.runWord run w

/-- Whether an outcome outranks an interrupt: an exception (60_exceptions R698), or a fetch nothing answered. -/
def outranksInterrupt : Result → Bool
  | .next s => s.exc || s.busWait.any (·.fetch)
  | .fault _ => false
  | .refused _ => false

/-- One instruction, or the interrupt in its place (60_exceptions R698). -/
def State.runOrInterrupt (s : State) (run : Instr → State → Result) : Result :=
  let r := s.runNext run
  if s.takesInterrupt && !outranksInterrupt r then .next (s.raise .interrupt) else r

/-- The write buffer's oldest entry leaves between instructions; if nothing accepts it, it stays
(20_memory R160, R162). -/
def State.drainOne (s : State) : Res Unit :=
  match s.wbuf with
  | [] => .ok () s
  | e :: _ => if s.cfg.kindOf e = some .noResponse then .ok () s else s.drainHead

/-- An instruction starts: every late write is one instruction older. -/
def State.startInstr (s : State) : State := { s with hist := ageHazards s.hist }

/-! ### Killed fetches (70_reset_and_hazards R857 note δ) -/

/-- The exception of the fetch at pc, if its address has one (60_exceptions R696). -/
def State.fetchExc (s : State) : Option Exc :=
  if s.pc.extractLsb' 0 2 != 0 then some (.addressError s.pc false)
  else match s.translate .fetch s.pc with
    | .ok _ _ => none
    | .exc e => some e

/-- The state in which the fetch behind the instruction at pc comes, on the way the machine would take if that
instruction had ended otherwise than by an exception (DEDUCED, log 10). -/
def State.onward (s : State) (run : Instr → State → Result) : State :=
  let t := match s.runNext run with
    | .next t => if t.exc || t.busWait.isSome then s.retire else t
    | .fault _ => s.retire
    | .refused _ => s.retire
  { t.startInstr with busReply := none }

/-- The states of the next `n` fetches on that way. -/
def State.fetches (run : Instr → State → Result) : Nat → State → List State
  | 0, _ => []
  | n + 1, s => s :: State.fetches run n (s.onward run)

/-- The instruction at pc, if its fetch ends at once. -/
def State.fetched (s : State) : Option Instr :=
  match s.fetch with
  | .stop _ => none
  | .ok w _ =>
    match decode w with
    | .instr i => some i
    | .unused i => if s.cfg.ignoreUnusedFields then some i else none
    | .reserved => none
    | .copReserved _ => none
    | .fpReserved _ => none

/-- Whether the state after an exception is at a Cache Error vector: that exception leaves Cause as it was, and is
known by its vector's offset (60_exceptions R692, R713). -/
def State.atCacheError (t : State) : Bool := t.pc.extractLsb' 7 2 = 2

/-- The fetches behind an instruction that were killed, `t` being the state after it. An exception is taken at stage
4, when three fetches behind it have reached stage 1, where a fetch's exception writes the address registers; ERET has
two fetches behind it, whatever its return address (70_reset_and_hazards R856, R857, R862; DEDUCED, log 10). An
exception that writes the address registers itself keeps them as it left them. The delay slot that a likely branch
nullifies is none of these: it has no effect at all, its fetch included (43_jumps_branches R441, D26). -/
def State.killed (s t : State) (run : Instr → State → Result) : List State :=
  if t.exc then
    let code := (t.cp0.cause.extractLsb' 2 5).toNat
    if code = 0 || 5 < code || t.atCacheError then State.fetches run 3 (s.onward run) else []
  else if s.fetched = some .eret then State.fetches run 2 { s.retire.startInstr with busReply := none }
  else []

/-- A killed fetch at `u` whose address has an exception may have changed BadVAddr, Context, XContext and EntryHi of
`t`, as that exception does: the `k`-th draw (70_reset_and_hazards R857 note δ). -/
def State.killedFetch (s t u : State) (k : Nat) : State :=
  match u.fetchExc with
  | none => t
  | some e =>
    let x := (s.excRegs e).cp0
    let c := t.cp0
    let b := t.pick (.killedFetch k)
    { t with cp0 := { c with
        badVAddr := if b then x.badVAddr else c.badVAddr
        context := if b then x.context else c.context
        xContext := if b then x.xContext else c.xContext
        entryHi := if b then x.entryHi else c.entryHi } }

/-- The state after an instruction with what the killed fetches behind it may have done, in their order. -/
def State.killFetches (s t : State) (run : Instr → State → Result) : State :=
  (s.killed t run).zipIdx.foldl (init := t) fun t p => s.killedFetch t p.1 p.2

/-- The end of an instruction with what the fetches behind it may have done. -/
def State.afterRun (s : State) (run : Instr → State → Result) : Result → Result
  | .next t => .next (s.killFetches t run)
  | .fault f => .fault f
  | .refused r => .refused r

/-! ### Sharing the system interface -/

/-- Whether an outcome used the system interface. -/
def State.usedBus (s : State) : Result → Bool
  | .next t => t.bus.length != s.bus.length
  | .fault _ => true
  | .refused _ => false

/-- Whether an outcome is that of a CACHE operation which began: the instruction at pc is CACHE, and it took no
exception, or the Cache Error that such an operation finds. External requests are completed before one begins
(22_caches R262). -/
def State.beganCacheOp (s : State) : Result → Bool
  | .next t =>
    match s.fetched with
    | some (.cache _ _ _) => !t.exc || t.atCacheError
    | _ => false
  | .fault _ => false
  | .refused _ => false

/-- A step at an instruction boundary. While the external agent holds the interface, or asks for it (`busy`), no write
leaves, and an instruction that needs the interface, or is a CACHE operation, waits (61_system_interface R767, R794,
R799, 22_caches R262). -/
def State.boundary (s : State) (busy : Bool) (run : Instr → State → Result) : Result :=
  if busy then
    let s1 := s.startInstr
    let r := s1.runOrInterrupt run
    if s1.usedBus r || s1.beganCacheOp r then .next s else s1.afterRun run r
  else s.drainOne.finish fun _ s1 => s1.startInstr.afterRun run (s1.startInstr.runOrInterrupt run)

/-- The response to the pending read has come: the instruction goes on, with the open values of the step it began in;
an instruction whose fetch waited may be replaced by an interrupt. If it needs the interface again, or is a CACHE
operation that has not begun, and the agent holds the interface or asks for it, it waits on. -/
def State.resume (s : State) (w : BusWait) (busy : Bool) (run : Instr → State → Result) : Result :=
  let s1 := { s with busWait := none, free := w.free }
  let r := if w.fetch then s1.runOrInterrupt run else s1.runWord run w.word
  if busy && (s1.usedBus r || (w.fetch && s1.beganCacheOp r)) then .next s
  else match (if w.fetch then s1 else { s1 with busReply := none }).afterRun run r with
    | .next t => .next { t with busReply := none, free := s.free }
    | .fault f => .fault f
    | .refused r => .refused r

/-- What the outside does when no input is listed: the pins keep their levels. -/
def State.idleInput (s : State) : Input :=
  { intPins := s.intPins, nmi := s.nmiPin, extRqst := false, reset := .none, requests := [], between := [] }

/-- The input of this step. -/
def State.input (s : State) : Input := s.inputs.headD s.idleInput

/-- The state with this step's pins. ExtRqst is granted at once: the interface goes to slave state
(61_system_interface R767, R794). -/
def State.latchInput (s : State) : State :=
  let i := s.input
  { s with
    intPins := i.intPins, nmiPin := i.nmi, slave := s.slave || i.extRqst, dma := i.between
    inputs := s.inputs.tail, exc := false }.latchNmi

/-- After the external requests: a pending read keeps waiting or its instruction goes on, an NMI is taken, standby goes
on or ends, or an instruction runs. As long as ExtRqst is asserted, the processor issues no request (61_system_interface
R794). -/
def State.proceed (s : State) (i : Input) (run : Instr → State → Result) : Result :=
  match s.busWait with
  | some w => if s.busReply.isNone then .next s else s.resume w (s.slave || i.extRqst) run
  | none =>
    if s.nmiLatch then .next s.softEntry
    else if s.standby && !s.wakes i then .next s
    else { s with standby := false }.boundary (s.slave || i.extRqst) run

/-- One step (60_exceptions R696, R698). A reset drops the external requests and the other masters' writes that the same
input lists (DESIGN CHOICE, log 16). -/
def State.cycle (s : State) (run : Instr → State → Result) : Result :=
  let i := s.input
  let s1 := s.latchInput
  endStep
    (match i.reset with
     | .cold st => s1.coldReset st
     | .soft => .next s1.softReset
     | .none => (State.extRequests i.requests s1).finish fun _ s2 => s2.proceed i run)

/-! ### Placing an instruction where the next step fetches it -/

/-- The physical address of the next fetch; 0 if it has none. -/
def State.fetchAddr (s : State) : PAddr :=
  match s.translate .fetch s.pc with
  | .ok pa _ => pa
  | .exc _ => 0

/-- Memory with an instruction word at a physical address, in memory byte order (20_memory R147). -/
def storeWord (bigEndian : Bool) (mem : List Host.Cell) (pa : PAddr) (w : Word) : List Host.Cell :=
  storeBytes mem pa.toNat (fun k => w.extractLsb' (8 * (if bigEndian then 3 - k else k)) 8) 4

end Sys2Proof.Machine
end

