-- ==== Sys2Proof/Machine/Alu.lean ====
section
/-! DEFINITION. Arithmetic, logic and comparison (41_alu). -/
namespace Sys2Proof.Machine

/-! ### 32-bit add and subtract -/

/-- ADD (41_alu R362). -/
def execAdd (rs rt rd : Reg) (s : State) : Result :=
  let a := s.readGpr rs
  let b := s.readGpr rt
  s.trap32 (isSext32 a && isSext32 b) (addOverflows (low32 a) (low32 b)) rd (low32 a + low32 b)

/-- ADDU (41_alu R363). -/
def execAddu (rs rt rd : Reg) (s : State) : Result :=
  let a := s.readGpr rs
  let b := s.readGpr rt
  s.setGpr rd (s.word32 (isSext32 a && isSext32 b) (low32 a + low32 b))

/-- SUB (41_alu R364). -/
def execSub (rs rt rd : Reg) (s : State) : Result :=
  let a := s.readGpr rs
  let b := s.readGpr rt
  s.trap32 (isSext32 a && isSext32 b) (subOverflows (low32 a) (low32 b)) rd (low32 a - low32 b)

/-- SUBU (41_alu R365). -/
def execSubu (rs rt rd : Reg) (s : State) : Result :=
  let a := s.readGpr rs
  let b := s.readGpr rt
  s.setGpr rd (s.word32 (isSext32 a && isSext32 b) (low32 a - low32 b))

/-- ADDI (41_alu R366). -/
def execAddi (rs rt : Reg) (imm : BitVec 16) (s : State) : Result :=
  let a := s.readGpr rs
  let b : Word := imm.signExtend 32
  s.trap32 (isSext32 a) (addOverflows (low32 a) b) rt (low32 a + b)

/-- ADDIU (41_alu R367). -/
def execAddiu (rs rt : Reg) (imm : BitVec 16) (s : State) : Result :=
  let a := s.readGpr rs
  s.setGpr rt (s.word32 (isSext32 a) (low32 a + imm.signExtend 32))

/-! ### 64-bit add and subtract -/

/-- DADD (41_alu R368). -/
def execDadd (rs rt rd : Reg) (s : State) : Result :=
  let a := s.readGpr rs
  let b := s.readGpr rt
  s.needs64 (s.trap64 (addOverflows a b) rd (a + b))

/-- DADDU (41_alu R369). -/
def execDaddu (rs rt rd : Reg) (s : State) : Result :=
  s.needs64 (s.setGpr rd (s.readGpr rs + s.readGpr rt))

/-- DSUB (41_alu R370). -/
def execDsub (rs rt rd : Reg) (s : State) : Result :=
  let a := s.readGpr rs
  let b := s.readGpr rt
  s.needs64 (s.trap64 (subOverflows a b) rd (a - b))

/-- DSUBU (41_alu R371). -/
def execDsubu (rs rt rd : Reg) (s : State) : Result :=
  s.needs64 (s.setGpr rd (s.readGpr rs - s.readGpr rt))

/-- DADDI (41_alu R372). -/
def execDaddi (rs rt : Reg) (imm : BitVec 16) (s : State) : Result :=
  let a := s.readGpr rs
  s.needs64 (s.trap64 (addOverflows a (sext64 imm)) rt (a + sext64 imm))

/-- DADDIU (41_alu R373). -/
def execDaddiu (rs rt : Reg) (imm : BitVec 16) (s : State) : Result :=
  s.needs64 (s.setGpr rt (s.readGpr rs + sext64 imm))

/-! ### Logic and comparison -/

/-- AND (41_alu R374). -/
def execAnd (rs rt rd : Reg) (s : State) : Result :=
  s.setGpr rd (s.readGpr rs &&& s.readGpr rt)

/-- OR (41_alu R375). -/
def execOr (rs rt rd : Reg) (s : State) : Result :=
  s.setGpr rd (s.readGpr rs ||| s.readGpr rt)

/-- XOR (41_alu R376). -/
def execXor (rs rt rd : Reg) (s : State) : Result :=
  s.setGpr rd (s.readGpr rs ^^^ s.readGpr rt)

/-- NOR (41_alu R377). -/
def execNor (rs rt rd : Reg) (s : State) : Result :=
  s.setGpr rd (~~~ (s.readGpr rs ||| s.readGpr rt))

/-- ANDI (41_alu R378). -/
def execAndi (rs rt : Reg) (imm : BitVec 16) (s : State) : Result :=
  s.setGpr rt (s.readGpr rs &&& zext64 imm)

/-- ORI (41_alu R379). -/
def execOri (rs rt : Reg) (imm : BitVec 16) (s : State) : Result :=
  s.setGpr rt (s.readGpr rs ||| zext64 imm)

/-- XORI (41_alu R380). -/
def execXori (rs rt : Reg) (imm : BitVec 16) (s : State) : Result :=
  s.setGpr rt (s.readGpr rs ^^^ zext64 imm)

/-- LUI (41_alu R381). -/
def execLui (rt : Reg) (imm : BitVec 16) (s : State) : Result :=
  s.setGpr rt (sext64 (imm ++ (0 : BitVec 16)))

/-- SLT (41_alu R382). -/
def execSlt (rs rt rd : Reg) (s : State) : Result :=
  s.setGpr rd (boolWord ((s.readGpr rs).slt (s.readGpr rt)))

/-- SLTU (41_alu R383). -/
def execSltu (rs rt rd : Reg) (s : State) : Result :=
  s.setGpr rd (boolWord ((s.readGpr rs).ult (s.readGpr rt)))

/-- SLTI (41_alu R384). -/
def execSlti (rs rt : Reg) (imm : BitVec 16) (s : State) : Result :=
  s.setGpr rt (boolWord ((s.readGpr rs).slt (sext64 imm)))

/-- SLTIU (41_alu R385): the immediate is sign-extended, the comparison unsigned. -/
def execSltiu (rs rt : Reg) (imm : BitVec 16) (s : State) : Result :=
  s.setGpr rt (boolWord ((s.readGpr rs).ult (sext64 imm)))

end Sys2Proof.Machine
end

