-- ==== Sys2Proof/Machine/Branch.lean ====
section
/-! DEFINITION. Jumps and branches (43_jumps_branches) and the delay slot. -/
namespace Sys2Proof.Machine

/-- The end of a jump or branch in a delay slot: the next pc and the link registers are open, no branch is
pending (43_jumps_branches R464 item 1, U44). -/
def State.slotJump (s : State) (p : Pending) (link : Reg) : Result :=
  let s1 := s.writeGpr p.link (s.freeWord (.slotLink p.link))
  let s2 := s1.writeGpr link (s.freeWord (.slotLink link))
  .next { s2.stepRandom with pc := s.freeWord .slotBranch, pending := none }

/-- A jump to `target`, which writes `v` to register `link` (0 for no link): the instruction at pc + 4 is its
delay slot (43_jumps_branches R440). -/
def State.jump (s : State) (target : DWord) (link : Reg) (v : DWord) : Result :=
  match s.pending with
  | some p => s.slotJump p link
  | none =>
    .next { (s.writeGpr link v).stepRandom with
      pc := s.pc + 4, pending := some { branchPc := s.pc, target := target, link := link } }

/-- The branch target (43_jumps_branches R441). -/
def State.branchTarget (s : State) (offset : BitVec 16) : DWord := s.pc + 4 + (sext64 offset <<< 2)

/-- A conditional branch. Not taken, an ordinary branch still makes the next instruction a delay slot, of target
pc + 8; a likely one nullifies it (43_jumps_branches R440, R441). -/
def State.branch (s : State) (taken likely : Bool) (offset : BitVec 16) (link : Reg) : Result :=
  if taken then s.jump (s.branchTarget offset) link (s.pc + 8)
  else if likely then
    match s.pending with
    | some p => s.slotJump p link
    | none => .next { (s.writeGpr link (s.pc + 8)).stepRandom with pc := s.pc + 8 }
  else s.jump (s.pc + 8) link (s.pc + 8)

/-! ### Jumps -/

/-- The target of J and JAL (43_jumps_branches R442). -/
def State.jumpTarget (s : State) (target : BitVec 26) : DWord :=
  (s.pc + 4).extractLsb' 28 36 ++ target ++ (0 : BitVec 2)

/-- J (43_jumps_branches R442). -/
def execJ (target : BitVec 26) (s : State) : Result :=
  s.jump (s.jumpTarget target) 0 0

/-- JAL (43_jumps_branches R443). -/
def execJal (target : BitVec 26) (s : State) : Result :=
  s.jump (s.jumpTarget target) 31 (s.pc + 8)

/-- JR (43_jumps_branches R444). -/
def execJr (rs : Reg) (s : State) : Result :=
  s.jump (s.readGpr rs) 0 0

/-- JALR (43_jumps_branches R445); with rs = rd both the link and the target are open (U45). -/
def execJalr (rs rd : Reg) (s : State) : Result :=
  if rs = rd && rd != 0 then s.jump (s.freeWord .jalrTarget) rd (s.freeWord .jalrLink)
  else s.jump (s.readGpr rs) rd (s.pc + 8)

/-! ### Conditional branches: the condition is tested on the registers before the link is written (R464 item 2) -/

/-- BEQ (43_jumps_branches R446). -/
def execBeq (rs rt : Reg) (offset : BitVec 16) (s : State) : Result :=
  s.branch (s.readGpr rs == s.readGpr rt) false offset 0

/-- BEQL (43_jumps_branches R454). -/
def execBeql (rs rt : Reg) (offset : BitVec 16) (s : State) : Result :=
  s.branch (s.readGpr rs == s.readGpr rt) true offset 0

/-- BNE (43_jumps_branches R447). -/
def execBne (rs rt : Reg) (offset : BitVec 16) (s : State) : Result :=
  s.branch (s.readGpr rs != s.readGpr rt) false offset 0

/-- BNEL (43_jumps_branches R455). -/
def execBnel (rs rt : Reg) (offset : BitVec 16) (s : State) : Result :=
  s.branch (s.readGpr rs != s.readGpr rt) true offset 0

/-- BLEZ (43_jumps_branches R448). -/
def execBlez (rs : Reg) (offset : BitVec 16) (s : State) : Result :=
  s.branch (isLez (s.readGpr rs)) false offset 0

/-- BLEZL (43_jumps_branches R456). -/
def execBlezl (rs : Reg) (offset : BitVec 16) (s : State) : Result :=
  s.branch (isLez (s.readGpr rs)) true offset 0

/-- BGTZ (43_jumps_branches R449). -/
def execBgtz (rs : Reg) (offset : BitVec 16) (s : State) : Result :=
  s.branch (!isLez (s.readGpr rs)) false offset 0

/-- BGTZL (43_jumps_branches R457). -/
def execBgtzl (rs : Reg) (offset : BitVec 16) (s : State) : Result :=
  s.branch (!isLez (s.readGpr rs)) true offset 0

/-- BLTZ (43_jumps_branches R450). -/
def execBltz (rs : Reg) (offset : BitVec 16) (s : State) : Result :=
  s.branch (isNeg (s.readGpr rs)) false offset 0

/-- BLTZL (43_jumps_branches R458). -/
def execBltzl (rs : Reg) (offset : BitVec 16) (s : State) : Result :=
  s.branch (isNeg (s.readGpr rs)) true offset 0

/-- BGEZ (43_jumps_branches R451). -/
def execBgez (rs : Reg) (offset : BitVec 16) (s : State) : Result :=
  s.branch (!isNeg (s.readGpr rs)) false offset 0

/-- BGEZL (43_jumps_branches R459). -/
def execBgezl (rs : Reg) (offset : BitVec 16) (s : State) : Result :=
  s.branch (!isNeg (s.readGpr rs)) true offset 0

/-- BLTZAL (43_jumps_branches R452). -/
def execBltzal (rs : Reg) (offset : BitVec 16) (s : State) : Result :=
  s.branch (isNeg (s.readGpr rs)) false offset 31

/-- BLTZALL (43_jumps_branches R460). -/
def execBltzall (rs : Reg) (offset : BitVec 16) (s : State) : Result :=
  s.branch (isNeg (s.readGpr rs)) true offset 31

/-- BGEZAL (43_jumps_branches R453). -/
def execBgezal (rs : Reg) (offset : BitVec 16) (s : State) : Result :=
  s.branch (!isNeg (s.readGpr rs)) false offset 31

/-- BGEZALL (43_jumps_branches R461). -/
def execBgezall (rs : Reg) (offset : BitVec 16) (s : State) : Result :=
  s.branch (!isNeg (s.readGpr rs)) true offset 31

end Sys2Proof.Machine
end

