-- ==== Sys2Proof/Machine/CacheOps.lean ====
section
/-! DEFINITION. The CACHE instruction (22_caches R240 to R262). -/
namespace Sys2Proof.Machine

/-- The line an Index operation or Fill addresses: way va[13], set va[12:5] (R242). -/
def indexOf (va : DWord) : Nat := lineIndex (va.getLsbD 13) (setOf va)

/-- The doubleword of the line that va[4:3] selects (R245, R259). -/
def dwordOf (va : DWord) : Nat := (va.extractLsb' 3 2).toNat

/-- Status.CH := hit (R258). -/
def State.setCH (s : State) (hit : Bool) : State :=
  { s with cp0 := { s.cp0 with status := putBit s.cp0.status 18 hit } }

/-- Instruction line `i` := l; the next three fetches may still see the old line (70_reset_and_hazards R864). -/
def State.changeI (s : State) (i : Nat) (l : ILine) : State :=
  (s.putIline i l).note (.icache i (s.iline i))

/-- The valid instruction line that holds the physical address; with two the choice is open, whichever of them the fetch
of the instruction itself may have used (22_caches R233). -/
def State.iHit (s : State) (va : DWord) (pa : PAddr) : Option Nat :=
  let hits := fun i => (s.iline i).tag == tagOf pa && (s.iline i).valid
  let a := lineIndex false (setOf va)
  let b := lineIndex true (setOf va)
  match hits a, hits b with
  | true, true => some (if s.pick .sameTagHit then b else a)
  | true, false => some a
  | false, true => some b
  | false, false => none

/-- The parity bits of doubleword `j` of a data line: bit `l` is the parity of byte lane `l`. -/
def DLine.dwordParity (l : DLine) (bigEndian : Bool) (j : Nat) : BitVec 8 :=
  (List.range 8).foldl (fun p n => putBit p n (l.par.getLsbD (8 * j + laneOf bigEndian n))) 0

/-- A data line with the parity of doubleword `j` replaced from ECC. -/
def DLine.forceParity (l : DLine) (bigEndian : Bool) (j : Nat) (ecc : BitVec 8) : DLine :=
  let p := (List.range 8).foldl (fun p n => putBit p (8 * j + laneOf bigEndian n) (ecc.getLsbD n)) l.par
  { l with par := p }

/-- Forced parity of a data line: with Status.CE = 1 the doubleword va[4:3] takes its parity from ECC (R259). -/
def State.forceD (s : State) (i : Nat) (va : DWord) : State :=
  if stCE (s.statusSeen .forcedParity) then
    s.putDline i ((s.dline i).forceParity s.cfg.bigEndian (dwordOf va) (s.cp0.ecc.setWidth 8))
  else s

/-- Forced parity of an instruction line: which two ECC bits are meant is not given, so the two word parities
are open (11_cp0_registers R108). -/
def State.forceI (s : State) (i : Nat) (va : DWord) : State :=
  if stCE (s.statusSeen .forcedParity) then
    let w := s.freeWord .fillEcc
    let l := s.iline i
    let p := putBit (putBit l.par (2 * dwordOf va) (w.getLsbD 0)) (2 * dwordOf va + 1) (w.getLsbD 1)
    s.putIline i { l with par := p }
  else s

/-- Data line `i` leaves the cache: written back if modified, then its parity forced and it is Invalid (R244, R256). W
and its parity stay in the invalid line (DESIGN CHOICE, log 21). -/
def State.writeBackInvalidate (s : State) (i : Nat) (va : DWord) (pa : PAddr) : Res Unit :=
  (s.evict va pa i).bind fun _ s1 =>
    let s2 := s1.breakLink i
    .ok () ((s2.putDline i ((s2.dline i).retag (s2.dline i).tag 0)).forceD i va)

/-- PState of a TagLo word (11_cp0_registers R112). -/
def TagLoLayout.stateOf (l : TagLoLayout) (t : Word) : BitVec 2 := t.extractLsb' l.pState.toNat 2

/-- A TagLo word: the tag in bits 31:8, PState, F and P where the layout puts them, the rest from `rest`. -/
def TagLoLayout.word (l : TagLoLayout) (tag : BitVec 24) (state : BitVec 2) (fifo par : Bool) (rest : BitVec 8) :
    Word :=
  tag ++ putBit (putBit (putBit (putBit rest l.pState.toNat (state.getLsbD 0)) (l.pState.toNat + 1)
    (state.getLsbD 1)) l.fifo.toNat fifo) l.par.toNat par

/-- Index Load Tag (R245): the tag to TagLo, the parity of the doubleword va[4:3] to ECC. The other bits of TagLo are
open. -/
def State.loadTag (s : State) (tag : BitVec 24) (state : BitVec 2) (fifo par : Bool) (ecc : BitVec 8) : Result :=
  { s with cp0 := { s.cp0 with
      tagLo := s.cfg.tagLo.word tag state fifo par ((s.freeWord .loadTagBits).setWidth 8)
      ecc := ecc.setWidth 32 } }.done

/-- PState of a valid instruction line: not Invalid, else open (R245). -/
def State.validPState (s : State) : BitVec 2 :=
  let w := (s.freeWord .loadTagBits).extractLsb' 8 2
  if w = 0 then 3 else w

/-- Index Invalidate, instruction cache (R243). -/
def State.cacheIndexInvalidateI (s : State) (va : DWord) (pa : PAddr) : Result :=
  let i := indexOf va
  (s.changeI i ((s.iline i).retag (tagOf pa) false)).done

/-- Index Write-Back Invalidate, data cache (R244). -/
def State.cacheIndexWriteBackD (s : State) (va : DWord) (pa : PAddr) : Result :=
  (s.writeBackInvalidate (indexOf va) va pa).finish fun _ s1 => s1.done

/-- Index Load Tag, instruction cache. -/
def State.cacheIndexLoadTagI (s : State) (va : DWord) : Result :=
  let l := s.iline (indexOf va)
  s.loadTag l.tag (if l.valid then s.validPState else 0) l.fifo l.tagPar ((s.freeWord .loadTagEcc).setWidth 8)

/-- Index Load Tag, data cache. -/
def State.cacheIndexLoadTagD (s : State) (va : DWord) : Result :=
  let l := s.dline (indexOf va)
  s.loadTag l.tag l.state l.fifo l.tagPar (l.dwordParity s.cfg.bigEndian (dwordOf va))

/-- Whether Index Store Tag takes TagLo.F into the line is not stated (R235, R246): a draw of its own. -/
def State.storeFifo (s : State) (instr old : Bool) : Bool :=
  if s.pick (.storeFifo instr) then s.cp0.tagLo.getLsbD s.cfg.tagLo.fifo.toNat else old

/-- Index Store Tag, instruction cache (R246). -/
def State.cacheIndexStoreTagI (s : State) (va : DWord) : Result :=
  let i := indexOf va
  let l := s.iline i
  let t := s.cp0.tagLo
  (s.changeI i ({ l with fifo := s.storeFifo true l.fifo }.retag (t.extractLsb' 8 24)
    (s.cfg.tagLo.stateOf t != 0))).done

/-- Index Store Tag, data cache (R246); W is open if the line is valid afterwards (U36). It always breaks the link of
the linked line, even where it leaves that line valid with the same tag (20_memory R166 lets a model clear LLbit too
often; DESIGN CHOICE, log 23). -/
def State.cacheIndexStoreTagD (s : State) (va : DWord) : Result :=
  let i := indexOf va
  let l := s.dline i
  let t := s.cp0.tagLo
  let l1 := { l with fifo := s.storeFifo false l.fifo }.retag (t.extractLsb' 8 24) (s.cfg.tagLo.stateOf t)
  ((s.breakLink i).putDline i (if l1.state = 0 then l1 else l1.setW (s.pick .storeTagW))).done

/-- Create Dirty Exclusive (R247). The line it replaces is written back if modified, as R247 says, though
61_system_interface R775 does not list it; the line's FIFO bit stays (DESIGN CHOICE, log 21). -/
def State.cacheCreateDirty (s : State) (va : DWord) (pa : PAddr) : Result :=
  match s.dLookup va pa with
  | some i => (s.putDline i ((s.dline i).retag (tagOf pa) 3)).done
  | none =>
    let i := s.victim false va
    (s.evict va pa i).finish fun _ s1 =>
      let s2 := s1.breakLink i
      (s2.putDline i (((s2.dline i).retag (tagOf pa) 3).setW false)).done

/-- Hit Invalidate, instruction cache (R243). -/
def State.cacheHitInvalidateI (s : State) (va : DWord) (pa : PAddr) : Result :=
  match s.iHit va pa with
  | some i => ((s.changeI i ((s.iline i).retag (s.iline i).tag false)).setCH true).done
  | none => (s.setCH false).done

/-- Hit Invalidate, data cache: no write-back (R248); W stays (DESIGN CHOICE, log 21). -/
def State.cacheHitInvalidateD (s : State) (va : DWord) (pa : PAddr) : Result :=
  match s.dLookup va pa with
  | some i => (((s.breakLink i).putDline i ((s.dline i).retag (s.dline i).tag 0)).setCH true).done
  | none => (s.setCH false).done

/-- Fill, instruction cache (R249). The block read carries the start of the line. An erroneous response leaves the line
invalid (D37), with the new tag and the old data, and is a data bus error: the read is not an instruction's fetch; bad
parity is a data reference's too, ER = 1 (DESIGN CHOICE, log 21). -/
def State.cacheFill (s : State) (va : DWord) (pa : PAddr) : Result :=
  let i := indexOf va
  let old := s.iline i
  let addr := pa.extractLsb' 5 31 ++ (0 : BitVec 5)
  (s.busRead (.blockRead addr false) addr false (some (true, i))).finish fun cs s1 =>
    let s2 := if respError cs then s1.changeI i (old.retag (tagOf pa) false)
      else (s1.changeI i (newILine s.cfg.bigEndian 0 pa (s.pick .fillFifo) cs)).forceI i va
    (s2.checkResponse cs false true va pa).finish fun _ s3 => s3.done

/-- Hit Write-Back Invalidate, data cache (R256). -/
def State.cacheHitWriteBackInvalidate (s : State) (va : DWord) (pa : PAddr) : Result :=
  match s.dLookup va pa with
  | some i => (s.writeBackInvalidate i va pa).finish fun _ s1 => (s1.setCH true).done
  | none => (s.setCH false).done

/-- The parity of each byte of an instruction line as it goes out: good, but for the first byte of a word whose parity
is bad (the cache holds one bit a word; DESIGN CHOICE, log 20). -/
def ILine.bytePar (l : ILine) : BitVec 32 :=
  (List.range 8).foldl (init := byteParities l.data) fun p k =>
    if l.wordGood k then p else putBit p (4 * k) (!p.getLsbD (4 * k))

/-- The doublewords of an instruction line with bad parity. -/
def ILine.errs (l : ILine) : BitVec 4 := lineErrs l.data l.bytePar

/-- Hit Write-Back, instruction cache: unconditional on a hit (R255). A parity error found is an instruction line's,
ER = 0 (DESIGN CHOICE, log 20), with the address of the reference (R110). -/
def State.cacheHitWriteBackI (s : State) (va : DWord) (pa : PAddr) : Result :=
  match s.iHit va pa with
  | some i =>
    let l := s.iline i
    (s.pushLine (s.lineAddr l.tag i) l.data l.bytePar true (true, i)).finish fun _ s1 =>
      (s1.checkParity (if l.errs = 0 then none else
        some { er := false, ed := true, et := false, ee := false, va := va, pa := pa })).finish fun _ s2 =>
          ((s2.setCH true).forceI i va).done
  | none => (s.setCH false).done

/-- Hit Write-Back, data cache: the line stays, and a set W is cleared (R255). With W = 0 nothing of W is written, so a
wrong parity of it stays as it is (DESIGN CHOICE, log 21). -/
def State.cacheHitWriteBackD (s : State) (va : DWord) (pa : PAddr) : Result :=
  match s.dLookup va pa with
  | some i =>
    (if (s.dline i).w then
      (s.writeBack va pa i true).bind fun _ s1 => .ok () (s1.putDline i ((s1.dline i).setW false))
    else .ok () s).finish fun _ s1 => ((s1.forceD i va).setCH true).done
  | none => (s.setCH false).done

/-- `CacheOp(op, vAddr, pAddr)` (R241). Any other operation is undefined (R257 (a)). -/
def State.cacheOp (s : State) (op : BitVec 5) (va : DWord) (pa : PAddr) : Result :=
  match op.toNat with
  | 0x00 => s.cacheIndexInvalidateI va pa
  | 0x01 => s.cacheIndexWriteBackD va pa
  | 0x04 => s.cacheIndexLoadTagI va
  | 0x05 => s.cacheIndexLoadTagD va
  | 0x08 => s.cacheIndexStoreTagI va
  | 0x09 => s.cacheIndexStoreTagD va
  | 0x0D => s.cacheCreateDirty va pa
  | 0x10 => s.cacheHitInvalidateI va pa
  | 0x11 => s.cacheHitInvalidateD va pa
  | 0x14 => s.cacheFill va pa
  | 0x15 => s.cacheHitWriteBackInvalidate va pa
  | 0x18 => s.cacheHitWriteBackI va pa
  | 0x19 => s.cacheHitWriteBackD va pa
  | _ => .refused .cacheOpUndefined

/-- CACHE (R240): usability, translation as a load, the write buffer drains (R262), the operation. An uncached
address is undefined (R257 (b)). -/
def execCache (base : Reg) (op : BitVec 5) (offset : BitVec 16) (s : State) : Result :=
  let va := s.ea base offset
  s.needsCop 0 <|
    (s.xlate .load va).finish fun t s1 =>
      if t.2 = 2 then .refused .cacheUncached
      else s1.drain.finish fun _ s2 => s2.cacheOp op va t.1

end Sys2Proof.Machine
end

