-- ==== Sys2Proof/Machine/LoadStore.lean ====
section
/-! DEFINITION. Loads and stores of the CPU (40_loads_stores). -/
namespace Sys2Proof.Machine

/-! ### Aligned loads -/

/-- The low `8n` bits of a datum, sign-extended. -/
def signed (n : Nat) (d : DWord) : DWord := sext64 (d.setWidth (8 * n))

/-- The low `8n` bits of a datum, zero-extended. -/
def unsigned (n : Nat) (d : DWord) : DWord := zext64 (d.setWidth (8 * n))

/-- LB (40_loads_stores R314). -/
def execLb (base rt : Reg) (offset : BitVec 16) (s : State) : Result :=
  s.loadTo base rt offset 1 (signed 1)

/-- LBU (40_loads_stores R315). -/
def execLbu (base rt : Reg) (offset : BitVec 16) (s : State) : Result :=
  s.loadTo base rt offset 1 (unsigned 1)

/-- LH (40_loads_stores R316). -/
def execLh (base rt : Reg) (offset : BitVec 16) (s : State) : Result :=
  s.loadTo base rt offset 2 (signed 2)

/-- LHU (40_loads_stores R317). -/
def execLhu (base rt : Reg) (offset : BitVec 16) (s : State) : Result :=
  s.loadTo base rt offset 2 (unsigned 2)

/-- LW (40_loads_stores R318). -/
def execLw (base rt : Reg) (offset : BitVec 16) (s : State) : Result :=
  s.loadTo base rt offset 4 (signed 4)

/-- LWU (40_loads_stores R319). -/
def execLwu (base rt : Reg) (offset : BitVec 16) (s : State) : Result :=
  s.needs64 (s.loadTo base rt offset 4 (unsigned 4))

/-- LD (40_loads_stores R320). -/
def execLd (base rt : Reg) (offset : BitVec 16) (s : State) : Result :=
  s.needs64 (s.loadTo base rt offset 8 id)

/-! ### Aligned stores -/

/-- SB (40_loads_stores R321). -/
def execSb (base rt : Reg) (offset : BitVec 16) (s : State) : Result :=
  s.storeFrom base rt offset 1

/-- SH (40_loads_stores R322). -/
def execSh (base rt : Reg) (offset : BitVec 16) (s : State) : Result :=
  s.storeFrom base rt offset 2

/-- SW (40_loads_stores R323). -/
def execSw (base rt : Reg) (offset : BitVec 16) (s : State) : Result :=
  s.storeFrom base rt offset 4

/-- SD (40_loads_stores R324). -/
def execSd (base rt : Reg) (offset : BitVec 16) (s : State) : Result :=
  s.needs64 (s.storeFrom base rt offset 8)

/-! ### Unaligned loads and stores -/

/-- LWL (40_loads_stores R326). -/
def execLwl (base rt : Reg) (offset : BitVec 16) (s : State) : Result :=
  s.loadPartial base rt offset true 4

/-- LWR (40_loads_stores R327). -/
def execLwr (base rt : Reg) (offset : BitVec 16) (s : State) : Result :=
  s.loadPartial base rt offset false 4

/-- LDL (40_loads_stores R330). -/
def execLdl (base rt : Reg) (offset : BitVec 16) (s : State) : Result :=
  s.needs64 (s.loadPartial base rt offset true 8)

/-- LDR (40_loads_stores R331). -/
def execLdr (base rt : Reg) (offset : BitVec 16) (s : State) : Result :=
  s.needs64 (s.loadPartial base rt offset false 8)

/-- SWL (40_loads_stores R328). -/
def execSwl (base rt : Reg) (offset : BitVec 16) (s : State) : Result :=
  s.storePartial base rt offset true 4

/-- SWR (40_loads_stores R329). -/
def execSwr (base rt : Reg) (offset : BitVec 16) (s : State) : Result :=
  s.storePartial base rt offset false 4

/-- SDL (40_loads_stores R332). -/
def execSdl (base rt : Reg) (offset : BitVec 16) (s : State) : Result :=
  s.needs64 (s.storePartial base rt offset true 8)

/-- SDR (40_loads_stores R333). -/
def execSdr (base rt : Reg) (offset : BitVec 16) (s : State) : Result :=
  s.needs64 (s.storePartial base rt offset false 8)

/-! ### Load linked and store conditional (40_loads_stores R335 to R342, 20_memory R165 to R170) -/

/-- A load linked of `n` bytes: the load, LLbit and LLAddr, then SYNC (R335). At an uncached location the operation is
undefined: the load is done and LLbit is open (U48). -/
def State.loadLinked (s : State) (base rt : Reg) (offset : BitVec 16) (n : Nat) (ext : DWord → DWord) : Result :=
  let va := s.ea base offset
  (s.reference .load va n).finish fun t s1 =>
    (s1.readDatum va n t).finish fun d s2 =>
      s2.drain.finish fun _ s3 =>
        let s4 := { s3 with
          llbit := if t.2 = 2 then s3.pick .uncachedLink else true
          linkPa := t.1
          cp0 := { s3.cp0 with llAddr := t.1.extractLsb' 4 32 } }
        s4.setGpr rt (ext d)

/-- A store conditional of `n` bytes: translated whether or not it stores; GPR[rt] receives LLbit
(R340); then SYNC (R335). -/
def State.storeConditional (s : State) (base rt : Reg) (offset : BitVec 16) (n : Nat) : Result :=
  let va := s.ea base offset
  (s.reference .store va n).finish fun t s1 =>
    (if s.llbit then s1.writeDatum va n (s.readGpr rt) t else .ok () s1).finish fun _ s2 =>
      s2.drain.finish fun _ s3 => s3.setGpr rt (boolWord s.llbit)

/-- LL (40_loads_stores R336). -/
def execLl (base rt : Reg) (offset : BitVec 16) (s : State) : Result :=
  s.loadLinked base rt offset 4 (signed 4)

/-- LLD (40_loads_stores R338). -/
def execLld (base rt : Reg) (offset : BitVec 16) (s : State) : Result :=
  s.needs64 (s.loadLinked base rt offset 8 id)

/-- SC (40_loads_stores R340). -/
def execSc (base rt : Reg) (offset : BitVec 16) (s : State) : Result :=
  s.storeConditional base rt offset 4

/-- SCD (40_loads_stores R342). -/
def execScd (base rt : Reg) (offset : BitVec 16) (s : State) : Result :=
  s.needs64 (s.storeConditional base rt offset 8)

end Sys2Proof.Machine
end

