-- ==== Sys2Proof/Machine/Cop2.lean ====
section
/-! DEFINITION. Coprocessor 2 (46_coprocessor R531 to R548): unusable unless Status.CU2; with CU2 the unit does
not exist: values from it are open, values to it are lost, the CPU's half is performed (R548, D9). -/
namespace Sys2Proof.Machine

/-- COP2 (46_coprocessor R531): no unit, no effect. -/
def execCop2 (_cofun : BitVec 25) (s : State) : Result := s.needsCop 2 s.done

/-- MFC2 (46_coprocessor R532). -/
def execMfc2 (rt _rd : Reg) (s : State) : Result :=
  s.needsCop 2 (s.writeGprLate rt (sext64 (low32 (s.freeWord .cop2Value)))).done

/-- MTC2 (46_coprocessor R533): no effect. -/
def execMtc2 (_rt _rd : Reg) (s : State) : Result := s.needsCop 2 s.done

/-- DMFC2 (46_coprocessor R534). Its destination is delayed as those of DMFC0 and DMFC1 are, though
70_reset_and_hazards R852 does not list it (DESIGN CHOICE, log 10). -/
def execDmfc2 (rt _rd : Reg) (s : State) : Result :=
  s.needsCop 2 (s.needs64 (s.writeGprLate rt (s.freeWord .cop2Value)).done)

/-- DMTC2 (46_coprocessor R534): no effect. -/
def execDmtc2 (_rt _rd : Reg) (s : State) : Result := s.needsCop 2 (s.needs64 s.done)

/-- CFC2 (46_coprocessor R535). -/
def execCfc2 (rt _rd : Reg) (s : State) : Result :=
  s.needsCop 2 (s.writeGprLate rt (sext64 (low32 (s.freeWord .cop2Value)))).done

/-- CTC2 (46_coprocessor R537): no effect. -/
def execCtc2 (_rt _rd : Reg) (s : State) : Result := s.needsCop 2 s.done

/-- LWC2 (46_coprocessor R538): the word is read and discarded. -/
def execLwc2 (base _rt : Reg) (offset : BitVec 16) (s : State) : Result :=
  s.needsCop 2 ((s.loadDatum (s.ea base offset) 4).finish fun _ s1 => s1.done)

/-- LDC2 (46_coprocessor R541): the doubleword is read and discarded. -/
def execLdc2 (base _rt : Reg) (offset : BitVec 16) (s : State) : Result :=
  s.needsCop 2 ((s.loadDatum (s.ea base offset) 8).finish fun _ s1 => s1.done)

/-- SWC2 (46_coprocessor R539): an open word is stored. -/
def execSwc2 (base _rt : Reg) (offset : BitVec 16) (s : State) : Result :=
  s.needsCop 2 ((s.storeDatum (s.ea base offset) 4 (s.freeWord .cop2Value)).finish fun _ s1 => s1.done)

/-- SDC2 (46_coprocessor R542): an open doubleword is stored. -/
def execSdc2 (base _rt : Reg) (offset : BitVec 16) (s : State) : Result :=
  s.needsCop 2 ((s.storeDatum (s.ea base offset) 8 (s.freeWord .cop2Value)).finish fun _ s1 => s1.done)

/-- BC2F (46_coprocessor R543). -/
def execBc2f (offset : BitVec 16) (s : State) : Result :=
  s.needsCop 2 (s.branch (!s.pick .copCondition) false offset 0)

/-- BC2T (46_coprocessor R544). -/
def execBc2t (offset : BitVec 16) (s : State) : Result :=
  s.needsCop 2 (s.branch (s.pick .copCondition) false offset 0)

/-- BC2FL (46_coprocessor R545). -/
def execBc2fl (offset : BitVec 16) (s : State) : Result :=
  s.needsCop 2 (s.branch (!s.pick .copCondition) true offset 0)

/-- BC2TL (46_coprocessor R546). -/
def execBc2tl (offset : BitVec 16) (s : State) : Result :=
  s.needsCop 2 (s.branch (s.pick .copCondition) true offset 0)

end Sys2Proof.Machine
end

