-- ==== Sys2Proof/Machine/FpuMove.lean ====
section
/-! DEFINITION. Floating-point loads, stores, moves and branches (48_fpu_moves R610 to R625). -/
namespace Sys2Proof.Machine

/-! ### Loads and stores -/

/-- LWC1 (48_fpu_moves R610). -/
def execLwc1 (base ft : Reg) (offset : BitVec 16) (s : State) : Result :=
  s.needsCop 1 ((s.loadDatum (s.ea base offset) 4).finish fun d s1 => (s1.setFpr32 ft (low32 d)).done)

/-- SWC1 (48_fpu_moves R611). -/
def execSwc1 (base ft : Reg) (offset : BitVec 16) (s : State) : Result :=
  s.needsCop 1 ((s.storeDatum (s.ea base offset) 4 (zext64 (s.fpr32 ft))).finish fun _ s1 => s1.done)

/-- LDC1 (48_fpu_moves R612). -/
def execLdc1 (base ft : Reg) (offset : BitVec 16) (s : State) : Result :=
  s.needsCop 1 ((s.loadDatum (s.ea base offset) 8).finish fun d s1 => (s1.setFpr64 ft d).done)

/-- SDC1 (48_fpu_moves R613). -/
def execSdc1 (base ft : Reg) (offset : BitVec 16) (s : State) : Result :=
  s.needsCop 1 ((s.storeDatum (s.ea base offset) 8 (s.fpr64 ft)).finish fun _ s1 => s1.done)

/-! ### Moves -/

/-- MFC1 (48_fpu_moves R614). -/
def execMfc1 (rt fs : Reg) (s : State) : Result :=
  s.needsCop 1 (s.writeGprLate rt (sext64 (s.fpr32 fs))).done

/-- MTC1 (48_fpu_moves R615). -/
def execMtc1 (rt fs : Reg) (s : State) : Result :=
  s.needsCop 1 ((s.setFpr32 fs (low32 (s.readGpr rt))).noteFgr s (fprIndex s.frSeen fs)).done

/-- DMFC1 (48_fpu_moves R616). -/
def execDmfc1 (rt fs : Reg) (s : State) : Result :=
  s.needsCop 1 (s.needs64 (s.writeGprLate rt (s.fpr64 fs)).done)

/-- DMTC1 (48_fpu_moves R617). -/
def execDmtc1 (rt fs : Reg) (s : State) : Result :=
  s.needsCop 1 (s.needs64 ((s.setFpr64 fs (s.readGpr rt)).noteFgr s (fprIndex s.frSeen fs)).done)

/-- FCR0 (47_fpu_state_formats R566). -/
def State.fcr0 (s : State) : Word := 0x2100#32 ||| s.cfg.fcr0Rev.setWidth 32

/-- CFC1 (48_fpu_moves R618); from another control register the value is open (D35). -/
def execCfc1 (rt fs : Reg) (s : State) : Result :=
  s.needsCop 1 (s.writeGprLate rt
    (if fs = 0 then sext64 s.fcr0 else if fs = 31 then sext64 s.fcrSeen else s.freeWord .cfc1Value)).done

/-- A CTC1 to FCR31 that the next instruction may not see (70_reset_and_hazards R852, R854). -/
def State.noteFcr (s : State) (old : Word) : State :=
  let s1 := s.note (.fcc (fcrC old))
  if s.cfg.moveDelayInterlocked then s1 else s1.note (.fcr31 old)

/-- CTC1 (48_fpu_moves R619, 47_fpu_state_formats R573): the register is written, then a trap if E or an enabled
Cause bit is set; no effect on another control register (D35). -/
def execCtc1 (rt fs : Reg) (s : State) : Result :=
  let v := low32 (s.readGpr rt) &&& fcr31Mask
  s.needsCop 1 <|
    if fs = 31 then
      if fpTraps (fcrCause v) (fcrEnables v) then { s with fcr31 := v }.except .floatingPoint
      else ({ s with fcr31 := v }.noteFcr s.fcr31).done
    else s.done

/-! ### Branches on the floating-point condition -/

/-- BC1F (48_fpu_moves R620). -/
def execBc1f (offset : BitVec 16) (s : State) : Result := s.needsCop 1 (s.branch (!s.condSeen) false offset 0)

/-- BC1T (48_fpu_moves R621). -/
def execBc1t (offset : BitVec 16) (s : State) : Result := s.needsCop 1 (s.branch s.condSeen false offset 0)

/-- BC1FL (48_fpu_moves R622). -/
def execBc1fl (offset : BitVec 16) (s : State) : Result := s.needsCop 1 (s.branch (!s.condSeen) true offset 0)

/-- BC1TL (48_fpu_moves R623). -/
def execBc1tl (offset : BitVec 16) (s : State) : Result := s.needsCop 1 (s.branch s.condSeen true offset 0)

end Sys2Proof.Machine
end

