-- ==== Sys2Proof/Machine/ShiftMulDiv.lean ====
section
/-! DEFINITION. Shifts, multiply and divide, HI and LO (42_shifts_muldiv). -/
namespace Sys2Proof.Machine

/-! ### Shifts (42_shifts_muldiv R400 to R415) -/

/-- The end of a 32-bit shift: the source must be sign-extended (R400). -/
def State.shift32 (s : State) (src : DWord) (rd : Reg) (v : Word) : Result :=
  s.setGpr rd (s.word32 (isSext32 src) v)

/-- The amount of a variable 32-bit shift (R400). -/
def shiftBy5 (v : DWord) : Nat := (v.extractLsb' 0 5).toNat

/-- The amount of a variable 64-bit shift (R400). -/
def shiftBy6 (v : DWord) : Nat := (v.extractLsb' 0 6).toNat

/-- SLL (42_shifts_muldiv R401). The example R436 row 4 prints another result for 2 shifted by 31 than R401's pseudocode
gives; R401 is followed (DESIGN CHOICE, log 12). -/
def execSll (rt rd : Reg) (sa : BitVec 5) (s : State) : Result :=
  s.shift32 (s.readGpr rt) rd (low32 (s.readGpr rt) <<< sa.toNat)

/-- SLLV (42_shifts_muldiv R404). -/
def execSllv (rs rt rd : Reg) (s : State) : Result :=
  s.shift32 (s.readGpr rt) rd (low32 (s.readGpr rt) <<< shiftBy5 (s.readGpr rs))

/-- SRL (42_shifts_muldiv R402). -/
def execSrl (rt rd : Reg) (sa : BitVec 5) (s : State) : Result :=
  s.shift32 (s.readGpr rt) rd (low32 (s.readGpr rt) >>> sa.toNat)

/-- SRLV (42_shifts_muldiv R405). -/
def execSrlv (rs rt rd : Reg) (s : State) : Result :=
  s.shift32 (s.readGpr rt) rd (low32 (s.readGpr rt) >>> shiftBy5 (s.readGpr rs))

/-- SRA (42_shifts_muldiv R403). -/
def execSra (rt rd : Reg) (sa : BitVec 5) (s : State) : Result :=
  s.shift32 (s.readGpr rt) rd ((low32 (s.readGpr rt)).sshiftRight sa.toNat)

/-- SRAV (42_shifts_muldiv R406). -/
def execSrav (rs rt rd : Reg) (s : State) : Result :=
  s.shift32 (s.readGpr rt) rd ((low32 (s.readGpr rt)).sshiftRight (shiftBy5 (s.readGpr rs)))

/-- DSLL (42_shifts_muldiv R407). -/
def execDsll (rt rd : Reg) (sa : BitVec 5) (s : State) : Result :=
  s.needs64 (s.setGpr rd (s.readGpr rt <<< (sa.toNat)))

/-- DSLLV (42_shifts_muldiv R410). -/
def execDsllv (rs rt rd : Reg) (s : State) : Result :=
  s.needs64 (s.setGpr rd (s.readGpr rt <<< (shiftBy6 (s.readGpr rs))))

/-- DSLL32 (42_shifts_muldiv R413). -/
def execDsll32 (rt rd : Reg) (sa : BitVec 5) (s : State) : Result :=
  s.needs64 (s.setGpr rd (s.readGpr rt <<< (32 + sa.toNat)))

/-- DSRL (42_shifts_muldiv R408). -/
def execDsrl (rt rd : Reg) (sa : BitVec 5) (s : State) : Result :=
  s.needs64 (s.setGpr rd (s.readGpr rt >>> (sa.toNat)))

/-- DSRLV (42_shifts_muldiv R411). -/
def execDsrlv (rs rt rd : Reg) (s : State) : Result :=
  s.needs64 (s.setGpr rd (s.readGpr rt >>> (shiftBy6 (s.readGpr rs))))

/-- DSRL32 (42_shifts_muldiv R414). -/
def execDsrl32 (rt rd : Reg) (sa : BitVec 5) (s : State) : Result :=
  s.needs64 (s.setGpr rd (s.readGpr rt >>> (32 + sa.toNat)))

/-- DSRA (42_shifts_muldiv R409). -/
def execDsra (rt rd : Reg) (sa : BitVec 5) (s : State) : Result :=
  s.needs64 (s.setGpr rd ((s.readGpr rt).sshiftRight (sa.toNat)))

/-- DSRAV (42_shifts_muldiv R412). -/
def execDsrav (rs rt rd : Reg) (s : State) : Result :=
  s.needs64 (s.setGpr rd ((s.readGpr rt).sshiftRight (shiftBy6 (s.readGpr rs))))

/-- DSRA32 (42_shifts_muldiv R415). -/
def execDsra32 (rt rd : Reg) (sa : BitVec 5) (s : State) : Result :=
  s.needs64 (s.setGpr rd ((s.readGpr rt).sshiftRight (32 + sa.toNat)))

/-! ### Multiply and divide (42_shifts_muldiv R420 to R429) -/

/-- Both sources are sign-extended (R420). -/
def State.mulOk (s : State) (rs rt : Reg) : Bool := isSext32 (s.readGpr rs) && isSext32 (s.readGpr rt)

/-- MULT (42_shifts_muldiv R421). -/
def execMult (rs rt : Reg) (s : State) : Result :=
  let t := sext64 (low32 (s.readGpr rs)) * sext64 (low32 (s.readGpr rt))
  s.setHiLo32 (s.mulOk rs rt) (high32 t) (low32 t)

/-- MULTU (42_shifts_muldiv R422). -/
def execMultu (rs rt : Reg) (s : State) : Result :=
  let t := zext64 (low32 (s.readGpr rs)) * zext64 (low32 (s.readGpr rt))
  s.setHiLo32 (s.mulOk rs rt) (high32 t) (low32 t)

/-- DIV (42_shifts_muldiv R423): truncating (R424). -/
def execDiv (rs rt : Reg) (s : State) : Result :=
  let a := low32 (s.readGpr rs)
  let b := low32 (s.readGpr rt)
  s.setHiLo32 (s.mulOk rs rt && b != 0) (BitVec.ofInt 32 (Int.tmod a.toInt b.toInt))
    (BitVec.ofInt 32 (Int.tdiv a.toInt b.toInt))

/-- DIVU (42_shifts_muldiv R425). -/
def execDivu (rs rt : Reg) (s : State) : Result :=
  let a := low32 (s.readGpr rs)
  let b := low32 (s.readGpr rt)
  s.setHiLo32 (s.mulOk rs rt && b != 0) (a % b) (a / b)

/-- DMULT (42_shifts_muldiv R426). -/
def execDmult (rs rt : Reg) (s : State) : Result :=
  let t : BitVec 128 := (s.readGpr rs).signExtend 128 * (s.readGpr rt).signExtend 128
  s.needs64 (s.setHiLo (t.extractLsb' 64 64) (t.extractLsb' 0 64))

/-- DMULTU (42_shifts_muldiv R427). -/
def execDmultu (rs rt : Reg) (s : State) : Result :=
  let t : BitVec 128 := (s.readGpr rs).setWidth 128 * (s.readGpr rt).setWidth 128
  s.needs64 (s.setHiLo (t.extractLsb' 64 64) (t.extractLsb' 0 64))

/-- DDIV (42_shifts_muldiv R428): truncating (R424). -/
def execDdiv (rs rt : Reg) (s : State) : Result :=
  let a := s.readGpr rs
  let b := s.readGpr rt
  s.needs64 (s.setHiLo64 (b != 0) (BitVec.ofInt 64 (Int.tmod a.toInt b.toInt))
    (BitVec.ofInt 64 (Int.tdiv a.toInt b.toInt)))

/-- DDIVU (42_shifts_muldiv R429). -/
def execDdivu (rs rt : Reg) (s : State) : Result :=
  let a := s.readGpr rs
  let b := s.readGpr rt
  s.needs64 (s.setHiLo64 (b != 0) (a % b) (a / b))

/-! ### HI and LO moves (42_shifts_muldiv R430 to R434) -/

/-- MFHI (42_shifts_muldiv R430). -/
def execMfhi (rd : Reg) (s : State) : Result :=
  s.readHiLo true rd

/-- MFLO (42_shifts_muldiv R431). -/
def execMflo (rd : Reg) (s : State) : Result :=
  s.readHiLo false rd

/-- MTHI (42_shifts_muldiv R432). -/
def execMthi (rs : Reg) (s : State) : Result :=
  let v := s.readGpr rs
  { s.loseHiLoReads true false with
      hi := v, lo := if s.hiloFresh then s.freeWord .hiLoPartner else s.lo, hiloFresh := false }.done

/-- MTLO (42_shifts_muldiv R433). -/
def execMtlo (rs : Reg) (s : State) : Result :=
  let v := s.readGpr rs
  { s.loseHiLoReads false true with
      lo := v, hi := if s.hiloFresh then s.freeWord .hiLoPartner else s.hi, hiloFresh := false }.done

end Sys2Proof.Machine
end

