-- ==== Sys2Proof/Machine/System.lean ====
section
/-! DEFINITION. The system control coprocessor's instructions (45_cp0_system R500 to R518) and the other
coprocessor 0 forms (46_coprocessor R536, R547). -/
namespace Sys2Proof.Machine

/-! ### Register moves -/

/-- MFC0 (45_cp0_system R500). -/
def execMfc0 (rt rd : Reg) (s : State) : Result :=
  s.needsCop 0 (s.writeGprLate rt (sext64 (low32 (s.cp0Read rd)))).done

/-- MTC0 (45_cp0_system R501): the write takes effect after the instruction's own step of Random
(11_cp0_registers R80), with its hazards (70_reset_and_hazards R856 to R860). -/
def execMtc0 (rt rd : Reg) (s : State) : Result :=
  s.needsCop 0 (.next ((s.retire.cp0Set rd (s.readGpr rt)).noteCp0 s rd))

/-- DMFC0 (45_cp0_system R502); from a 32-bit register the value is open (U11). -/
def execDmfc0 (rt rd : Reg) (s : State) : Result :=
  s.needsCop 0 <| s.needs64
    (s.writeGprLate rt (if cp0Wide rd || cp0Reserved rd then s.cp0Read rd else s.freeWord .dmfc0Narrow)).done

/-- DMTC0 (45_cp0_system R503); to a 32-bit register the value is open (U12). -/
def execDmtc0 (rt rd : Reg) (s : State) : Result :=
  s.needsCop 0 <| s.needs64 <|
    .next ((s.retire.cp0Set rd (if cp0Wide rd then s.readGpr rt else s.freeWord .dmtc0Narrow)).noteCp0 s rd)

/-- CFC0: not valid for coprocessor 0 (46_coprocessor R536). -/
def execCfc0 (_rt _rd : Reg) (s : State) : Result := s.needsCop 0 (s.except .reservedInstruction)

/-- CTC0: not valid for coprocessor 0 (46_coprocessor R536). -/
def execCtc0 (_rt _rd : Reg) (s : State) : Result := s.needsCop 0 (s.except .reservedInstruction)

/-! ### Branches on the condition of coprocessor 0, which has no source (46_coprocessor R547) -/

/-- BC0F (46_coprocessor R547). -/
def execBc0f (offset : BitVec 16) (s : State) : Result :=
  s.needsCop 0 (s.branch (!s.pick .copCondition) false offset 0)

/-- BC0T (46_coprocessor R547). -/
def execBc0t (offset : BitVec 16) (s : State) : Result :=
  s.needsCop 0 (s.branch (s.pick .copCondition) false offset 0)

/-- BC0FL (46_coprocessor R547). -/
def execBc0fl (offset : BitVec 16) (s : State) : Result :=
  s.needsCop 0 (s.branch (!s.pick .copCondition) true offset 0)

/-- BC0TL (46_coprocessor R547). -/
def execBc0tl (offset : BitVec 16) (s : State) : Result :=
  s.needsCop 0 (s.branch (s.pick .copCondition) true offset 0)

/-! ### TLB instructions (45_cp0_system R508 to R512) -/

/-- The entries that match EntryHi (R508), as numbers. -/
def State.tlbProbe (s : State) : List Nat :=
  let hi := s.cp0Read 10
  ((s.tlb.toList.mapIdx fun i e => (i, e)).filter fun p =>
    s.entryHits .move p.1 p.2 (hi.extractLsb' 62 2) (hi.extractLsb' 13 27) (hi.setWidth 8)).map (·.1)

/-- Index after TLBP: the match, P = 1 for none, open for several (R508). -/
def State.probeIndex (s : State) : Word :=
  match s.tlbProbe with
  | [] => 0x80000000#32
  | [i] => BitVec.ofNat 32 i
  | _ => low32 (s.freeWord .tlbpIndex) &&& indexMask

/-- TLBP (45_cp0_system R508). -/
def execTlbp (s : State) : Result :=
  s.needsCop 0
    (({ s with cp0 := { s.cp0 with index := s.probeIndex } }.note (.cp0 0 (s.cp0Get 0))).note .tlbp).done

/-- The four registers TLBR loads; with an Index above 47 they are open (R509, R512). -/
def State.tlbRead (s : State) : State :=
  let i := (s.cp0Read 0).setWidth 6
  let e := s.tlb[i.toNat]?.getD TlbEntry.zero
  let bad := decide (47 < i.toNat)
  { s with cp0 := { s.cp0 with
      pageMask := if bad then low32 (s.freeWord (.tlbrReg 5)) &&& pageMaskMask else pageMaskOf e
      entryHi := if bad then s.freeWord (.tlbrReg 10) &&& entryHiMask else entryHiOf e
      entryLo0 := if bad then s.freeWord (.tlbrReg 2) &&& entryLoMask else loOfHalf e.lo0 e.g
      entryLo1 := if bad then s.freeWord (.tlbrReg 3) &&& entryLoMask else loOfHalf e.lo1 e.g } }

/-- TLBR (45_cp0_system R509). -/
def execTlbr (s : State) : Result :=
  s.needsCop 0
    ((((s.tlbRead.note (.cp0 5 (s.cp0Get 5))).note (.cp0 10 (s.cp0Get 10))).note (.cp0 2 (s.cp0Get 2))).note
      (.cp0 3 (s.cp0Get 3))).done

/-- The entry TLBWI and TLBWR write (R510). -/
def State.tlbImage (s : State) : TlbEntry :=
  tlbEntryOf (low32 (s.cp0Read 5)) (s.cp0Read 10) (s.cp0Read 2) (s.cp0Read 3)

/-- An open TLB entry (U17). -/
def State.anyEntry (s : State) (i : Nat) : TlbEntry :=
  tlbEntryOf (low32 (s.freeWord (.tlbAny i 0))) (s.freeWord (.tlbAny i 1)) (s.freeWord (.tlbAny i 2))
    (s.freeWord (.tlbAny i 3))

/-- The TLB write of TLBWI and TLBWR; a fetch may see the old entry for two instructions
(70_reset_and_hazards R860); an index above 47 leaves the whole TLB open (R512). -/
def State.tlbWrite (s : State) (i : BitVec 6) : State :=
  if h : i.toNat < 48 then
    { s with tlb := s.tlb.set i.toNat s.tlbImage h }.note (.tlb i.toNat s.tlb[i.toNat])
  else { s with tlb := Vector.ofFn fun k => s.anyEntry k.val }

/-- TLBWI (45_cp0_system R510). -/
def execTlbwi (s : State) : Result := s.needsCop 0 (s.tlbWrite ((s.cp0Read 0).setWidth 6)).done

/-- TLBWR (45_cp0_system R511): Random as it is before the instruction's own step. The example of R520 writes TLB[40] with
Random = 40 three instructions earlier, though Random steps at each (11_cp0_registers R74, D13); the model follows the
stepping (DESIGN CHOICE, log 13). -/
def execTlbwr (s : State) : Result := s.needsCop 0 (s.tlbWrite ((s.cp0Read 1).setWidth 6)).done

/-! ### ERET and WAIT -/

/-- ERET (45_cp0_system R514). In a delay slot the next pc is open (43_jumps_branches R464 item 1). -/
def execEret (s : State) : Result :=
  let t := s.eret.stepRandom
  s.needsCop 0 (.next
    (match s.pending with
     | some p =>
       { t.writeGpr p.link (s.freeWord (.slotLink p.link)) with pc := s.freeWord .slotBranch }
     | none => t))

/-- WAIT (45_cp0_system R516): standby if the bus is idle, which here is an empty write buffer; else a NOP. -/
def execWait (s : State) : Result := s.needsCop 0 { s with standby := s.wbuf.isEmpty }.done

end Sys2Proof.Machine
end

