-- ==== Sys2Proof/Machine/Trap.lean ====
section
/-! DEFINITION. SYSCALL, BREAK, the conditional traps and SYNC (44_traps_special). -/
namespace Sys2Proof.Machine

/-- Trap if the condition holds, else nothing (44_traps_special R479). -/
def State.trapIf (s : State) (c : Bool) : Result := if c then s.except .trap else s.done

/-- SYSCALL (44_traps_special R480); the code is for software. -/
def execSyscall (_code : BitVec 20) (s : State) : Result :=
  s.except .sysCall

/-- BREAK (44_traps_special R481); the code is for software. -/
def execBrk (_code : BitVec 20) (s : State) : Result :=
  s.except .breakpoint

/-- TGE (44_traps_special R482). -/
def execTge (rs rt : Reg) (_code : BitVec 10) (s : State) : Result :=
  s.trapIf (!(s.readGpr rs).slt (s.readGpr rt))

/-- TGEI (44_traps_special R488). -/
def execTgei (rs : Reg) (imm : BitVec 16) (s : State) : Result :=
  s.trapIf (!(s.readGpr rs).slt (sext64 imm))

/-- TGEU (44_traps_special R483). -/
def execTgeu (rs rt : Reg) (_code : BitVec 10) (s : State) : Result :=
  s.trapIf (!(s.readGpr rs).ult (s.readGpr rt))

/-- TGEIU (44_traps_special R489). -/
def execTgeiu (rs : Reg) (imm : BitVec 16) (s : State) : Result :=
  s.trapIf (!(s.readGpr rs).ult (sext64 imm))

/-- TLT (44_traps_special R484). -/
def execTlt (rs rt : Reg) (_code : BitVec 10) (s : State) : Result :=
  s.trapIf ((s.readGpr rs).slt (s.readGpr rt))

/-- TLTI (44_traps_special R490). -/
def execTlti (rs : Reg) (imm : BitVec 16) (s : State) : Result :=
  s.trapIf ((s.readGpr rs).slt (sext64 imm))

/-- TLTU (44_traps_special R485). -/
def execTltu (rs rt : Reg) (_code : BitVec 10) (s : State) : Result :=
  s.trapIf ((s.readGpr rs).ult (s.readGpr rt))

/-- TLTIU (44_traps_special R491). -/
def execTltiu (rs : Reg) (imm : BitVec 16) (s : State) : Result :=
  s.trapIf ((s.readGpr rs).ult (sext64 imm))

/-- TEQ (44_traps_special R486). -/
def execTeq (rs rt : Reg) (_code : BitVec 10) (s : State) : Result :=
  s.trapIf ((s.readGpr rs) == (s.readGpr rt))

/-- TEQI (44_traps_special R493). -/
def execTeqi (rs : Reg) (imm : BitVec 16) (s : State) : Result :=
  s.trapIf ((s.readGpr rs) == (sext64 imm))

/-- TNE (44_traps_special R487). -/
def execTne (rs rt : Reg) (_code : BitVec 10) (s : State) : Result :=
  s.trapIf ((s.readGpr rs) != (s.readGpr rt))

/-- TNEI (44_traps_special R494). -/
def execTnei (rs : Reg) (imm : BitVec 16) (s : State) : Result :=
  s.trapIf ((s.readGpr rs) != (sext64 imm))

/-- SYNC (44_traps_special R492): the write buffer drains (20_memory R157). -/
def execSync (s : State) : Result :=
  s.drain.finish fun _ s1 => s1.done

end Sys2Proof.Machine
end

