-- ==== Sys2Proof/Machine/Step.lean ====
section
/-! DEFINITION. The step of the machine, and how an instruction is placed where the next step fetches it. -/
namespace Sys2Proof.Machine

/-- One step of the machine (60_exceptions R698). -/
def step (s : State) : Host.Outcome State Fault Refusal := s.cycle exec

/-- The state with an instruction word where the next step fetches (log 11): in memory, at the translation of
pc. Every instruction is one 32-bit word (30_encoding R270). -/
def State.withFetchWord (s : State) (nbits w : Nat) : State :=
  { s with mem := storeWord s.cfg.bigEndian s.mem s.fetchAddr (BitVec.ofNat 32 (w % 2 ^ nbits)) }

end Sys2Proof.Machine
end

