-- ==== Sys2Proof/Safety.lean ====
section
/-! DEFINITION. The terms the statements use: what a well-formed state is, what an instruction leaves unchanged, the
bytes of memory as they stand once the write buffer is empty, and numbers read from bytes and from
floating-point patterns. -/
namespace Sys2Proof.Machine

/-! ### Well-formed states -/

/-- Memory and both caches are in canonical form, and the caches hold lines 0 to 511, the line a pending read refills
and the one in the write buffer among them (22_caches R230, R231). -/
def State.memoryWf (s : State) : Prop :=
  Memory.wf s.mem = true ∧ sparseWf DLine.zero s.dcache = true ∧ sparseWf ILine.zero s.icache = true
    ∧ (∀ p ∈ s.dcache, p.1 < 512) ∧ (∀ p ∈ s.icache, p.1 < 512) ∧ (∀ w ∈ s.busWait, ∀ p ∈ w.line, p.2 < 512)
    ∧ (∀ e ∈ s.wbuf, ∀ p ∈ e.slot, p.2 < 512)

/-- The bits of Cause that are stored and may be nonzero: BD, CE, IP1, IP0, ExcCode (11_cp0_registers R94). -/
def causeStored : Word := 0xB000037C#32

/-- Every field that reads as zero is zero, and Config holds what the boot stream fixed (11_cp0_registers R72 to
R119, 47_fpu_state_formats R570). -/
structure State.FieldsOk (s : State) : Prop where
  index : s.cp0.index &&& ~~~ indexMask = 0
  entryLo0 : s.cp0.entryLo0 &&& ~~~ entryLoMask = 0
  entryLo1 : s.cp0.entryLo1 &&& ~~~ entryLoMask = 0
  context : s.cp0.context &&& 0xF#64 = 0
  xContext : s.cp0.xContext &&& 0xF#64 = 0
  pageMask : s.cp0.pageMask &&& ~~~ pageMaskMask = 0
  wired : s.cp0.wired &&& ~~~ wiredMask = 0
  entryHi : s.cp0.entryHi &&& ~~~ entryHiMask = 0
  status : s.cp0.status &&& ~~~ statusMask = 0
  cause : s.cp0.cause &&& ~~~ causeStored = 0
  ecc : s.cp0.ecc &&& ~~~ eccMask = 0
  config : s.cp0.config &&& ~~~ configMask = s.cfg.configReg &&& ~~~ configMask
  fcr31 : s.fcr31 &&& ~~~ fcr31Mask = 0
  tlb : ∀ e ∈ s.tlb, e.vpn2 &&& e.mask.setWidth 27 = 0
  r0 : s.gpr[0] = 0

/-- Random lies between Wired and 47, unless Wired exceeds 47 (11_cp0_registers R74, R80). -/
def State.randomOk (s : State) : Prop :=
  s.cp0.wired.toNat ≤ 47 → s.cp0.wired.toNat ≤ s.cp0.random.toNat ∧ s.cp0.random.toNat ≤ 47

/-- The write buffer holds at most four entries, or one line alone (20_memory R160). -/
def State.bufferOk (s : State) : Prop :=
  s.wbuf.length ≤ 4 ∧ ∀ e ∈ s.wbuf, e.isLine = true → s.wbuf = [e]

/-! ### What an instruction does and leaves unchanged -/

/-- Instruction `i` answers a next state, and that state is as `p` says. -/
def State.completes (s : State) (i : Instr) (p : State → Prop) : Prop := ∃ t, exec i s = .next t ∧ p t

/-- Instruction `i` ends by taking exception `e` (60_exceptions R690). -/
def State.traps (s : State) (i : Instr) (e : Exc) : Prop := exec i s = .next (s.raise e)

/-- The integer is a signed number of `n` bits. -/
def fits (n : Nat) (v : Int) : Prop := -(2 ^ (n - 1) : Int) ≤ v ∧ v < (2 ^ (n - 1) : Int)

/-- Where control goes after an instruction that is no branch: to the target of the branch whose delay slot it is,
else to the next word (10_state R35, R38). -/
def State.nextPc (s : State) : DWord :=
  match s.pending with
  | some p => p.target
  | none => s.pc + 4

/-- Random after an instruction that completes, for a legal Wired (11_cp0_registers R74). -/
def State.randomSteps (s t : State) : Prop :=
  s.cp0.wired.toNat ≤ 47 →
    t.cp0.random = if s.cp0.random.toNat = s.cp0.wired.toNat then 47 else s.cp0.random - 1

/-- The instruction ended and control goes on; no branch is pending. -/
structure State.Continued (s t : State) : Prop where
  pc : t.pc = s.nextPc
  slot : t.pending = none
  random : s.randomSteps t

/-- Nothing changed but general register `rd`, the program counter, Random and the record of late writes: no other
register, no byte of memory. -/
structure State.OnlyGpr (s t : State) (rd : Reg) : Prop where
  others : ∀ r : Reg, r ≠ rd → t.gprHeld r = s.gprHeld r
  bytes : ∀ a : Nat, Memory.read t.mem a = Memory.read s.mem a
  rest : t = { s with
    gpr := t.gpr, pc := t.pc, pending := t.pending, hist := t.hist
    cp0 := { s.cp0 with random := t.cp0.random } }

/-- The instruction completed with `v` in general register `rd` (nothing for r0) and changed nothing else; the next
instruction may see the old value (70_reset_and_hazards R852). -/
structure State.WroteLate (s t : State) (rd : Reg) (v : DWord) : Prop where
  result : t.gprHeld rd = if rd = 0 then 0 else v
  frame : s.OnlyGpr t rd
  continued : s.Continued t

/-- The instruction completed with `v` in general register `rd` and changed nothing else; no late write is new. -/
structure State.Wrote (s t : State) (rd : Reg) (v : DWord) : Prop extends State.WroteLate s t rd v where
  late : ∀ h ∈ t.hist, h ∈ s.hist

/-- A jump or branch that wrote `v` to its link register (0 for none); nothing else changed but the program counter
and the pending branch. -/
structure State.BranchLinked (s t : State) (link : Reg) (v : DWord) : Prop where
  result : t.gprHeld link = if link = 0 then 0 else v
  frame : s.OnlyGpr t link
  late : ∀ h ∈ t.hist, h ∈ s.hist
  random : s.randomSteps t

/-- The next instruction is the delay slot of the branch at pc, and control goes to `target` after it
(43_jumps_branches R440). -/
def State.slotThen (s t : State) (target : DWord) (link : Reg) : Prop :=
  t.pc = s.pc + 4 ∧ t.pending = some { branchPc := s.pc, target := target, link := link }

/-- Nothing changed but HI, LO, the program counter, Random and the record of late writes. A general register may
have changed only if an MFHI or MFLO among the last two instructions wrote it (42_shifts_muldiv R434). -/
structure State.OnlyHiLo (s t : State) : Prop where
  gpr : ∀ r : Reg, (∀ h ∈ s.hist, 1 ≤ h.age ∧ h.age ≤ 2 →
      h.what ≠ .hiLoRead true r ∧ h.what ≠ .hiLoRead false r) → t.gprHeld r = s.gprHeld r
  bytes : ∀ a : Nat, Memory.read t.mem a = Memory.read s.mem a
  rest : t = { s with
    gpr := t.gpr, hi := t.hi, lo := t.lo, hiloFresh := t.hiloFresh
    pc := t.pc, pending := t.pending, hist := t.hist
    cp0 := { s.cp0 with random := t.cp0.random } }
  late : ∀ h ∈ t.hist, h ∈ s.hist

/-- HI and LO received a result. -/
structure State.WroteHiLo (s t : State) (hi lo : DWord) : Prop where
  hi : t.hi = hi
  lo : t.lo = lo
  frame : s.OnlyHiLo t
  continued : s.Continued t

/-! ### Floating-point registers -/

/-- The word in floating-point register `n`: with FR = 0 an odd one is the upper half of the pair
(47_fpu_state_formats R560). -/
def State.fprWord (s : State) (fr : Bool) (n : Reg) : Word :=
  let v := s.fgr[(fprIndex fr n).toNat]'((fprIndex fr n).isLt)
  if !fr && n.getLsbD 0 then high32 v else low32 v

/-- The 64 bits of floating-point register `n` (its even partner with FR = 0). -/
def State.fprDword (s : State) (fr : Bool) (n : Reg) : DWord :=
  s.fgr[(fprIndex fr n).toNat]'((fprIndex fr n).isLt)

/-- Nothing changed but floating-point registers, FCR31, the program counter, Random and the record of late
writes. -/
structure State.OnlyFpu (s t : State) : Prop where
  bytes : ∀ a : Nat, Memory.read t.mem a = Memory.read s.mem a
  rest : t = { s with
    fgr := t.fgr, fcr31 := t.fcr31, pc := t.pc, pending := t.pending, hist := t.hist
    cp0 := { s.cp0 with random := t.cp0.random } }

/-- No floating-point register but `n` changed: with FR = 0 no other half. -/
def State.keepsFprs32 (s t : State) (fr : Bool) (n : Reg) : Prop :=
  ∀ m : Reg, m ≠ n → t.fprWord fr m = s.fprWord fr m ∧ (fr = true → t.fprDword fr m = s.fprDword fr m)

/-- No 64-bit floating-point register but that of `n` changed. -/
def State.keepsFprs64 (s t : State) (fr : Bool) (n : Reg) : Prop :=
  ∀ m : Reg, fprIndex fr m ≠ fprIndex fr n → t.fprDword fr m = s.fprDword fr m

/-- Floating-point register `n` received the word `v`, and no other register and not FCR31 changed (48_fpu_moves
R625). -/
structure State.WroteFpr32 (s t : State) (fr : Bool) (n : Reg) (v : Word) : Prop where
  result : t.fprWord fr n = v
  others : s.keepsFprs32 t fr n
  fcr31 : t.fcr31 = s.fcr31
  frame : s.OnlyFpu t
  continued : s.Continued t

/-- Floating-point register `n` received the doubleword `v`, and no other register and not FCR31 changed. -/
structure State.WroteFpr64 (s t : State) (fr : Bool) (n : Reg) (v : DWord) : Prop where
  result : t.fprDword fr n = v
  others : s.keepsFprs64 t fr n
  fcr31 : t.fcr31 = s.fcr31
  frame : s.OnlyFpu t
  continued : s.Continued t

/-- The rational number a floating-point value stands for; 0 for what is none. -/
def FpVal.rat : FpVal → ℚ
  | .fin s m e => (if s then -1 else 1) * (m : ℚ) * (2 : ℚ) ^ e
  | _ => 0

/-- The value is a number. -/
def FpVal.isFin : FpVal → Bool
  | .fin _ _ _ => true
  | _ => false

/-- Less than, for values that are no NaN (49_fpu_arith_convert_compare R670). -/
def FpVal.less : FpVal → FpVal → Prop
  | .inf true, .inf true => False
  | .inf true, _ => True
  | .fin _ _ _, .inf false => True
  | .fin s m e, .fin s' m' e' => (FpVal.fin s m e).rat < (FpVal.fin s' m' e').rat
  | _, _ => False

/-- Equal, for values that are no NaN: both zeros are (49_fpu_arith_convert_compare R670). -/
def FpVal.same : FpVal → FpVal → Prop
  | .inf s, .inf s' => s = s'
  | .fin s m e, .fin s' m' e' => (FpVal.fin s m e).rat = (FpVal.fin s' m' e').rat
  | _, _ => False

/-- A floating-point instruction completed with the pattern `bits` in register `n` (64 bits if `wide`) and the
conditions `cause` in FCR31's Cause field, its Flags accumulated; no other floating-point register, no other bit of
FCR31 and nothing else changed (47_fpu_state_formats R561, R572). -/
structure State.WroteFp (s t : State) (wide : Bool) (n : Reg) (bits : Nat) (cause : BitVec 6) : Prop where
  result : if wide then t.fprDword s.frSeen n = BitVec.ofNat 64 bits else t.fprWord s.frSeen n = BitVec.ofNat 32 bits
  others : if wide then s.keepsFprs64 t s.frSeen n else s.keepsFprs32 t s.frSeen n
  conditions : fcrCause t.fcr31 = cause
  flags : fcrFlags t.fcr31 = fcrFlags s.fcr31 ||| cause.setWidth 5
  control : ∀ b < 32, b < 2 ∨ 6 < b ∧ b < 12 ∨ 17 < b → t.fcr31.getLsbD b = s.fcr31.getLsbD b
  frame : s.OnlyFpu t
  continued : s.Continued t

/-- A floating-point instruction took the Floating-Point exception with the conditions `cause`: no result, the Flags
as they were (47_fpu_state_formats R572, R574). -/
def State.fpTrapped (s : State) (i : Instr) (cause : BitVec 6) : Prop :=
  exec i s = .next ({ s with fcr31 := putCause s.fcr31 cause }.raise .floatingPoint)

/-- Register `n` may hold an operand or result of format `f`: an even number for a double with FR = 0
(47_fpu_state_formats R562). -/
def State.holds (s : State) (f : FpFmt) (n : Reg) : Prop := f.wide = true → s.frSeen = false → n.getLsbD 0 = false

/-- Pattern `p` of format `f` is a number that is not denormalized (47_fpu_state_formats R565). -/
def FpFmt.plainNumber (f : FpFmt) (p : Nat) : Prop := p < 2 ^ f.width ∧ (f.value p).isFin = true ∧ f.denormal p = false

/-- The formats with their codes (47_fpu_state_formats R568). -/
def fpFormats : List (BitVec 5 × FpFmt) := [(16, fmtS), (17, fmtD)]

/-- `z` is the value `x` rounded to an integer in a mode: nearest with ties to even, toward zero, up, down
(47_fpu_state_formats R571). -/
def roundsTo (rm : BitVec 2) (x : ℚ) (z : Int) : Prop :=
  if rm = 0 then |(z : ℚ) - x| ≤ 1 / 2 ∧ (|(z : ℚ) - x| = 1 / 2 → z % 2 = 0)
  else if rm = 1 then |(z : ℚ)| ≤ |x| ∧ |x| - |(z : ℚ)| < 1 ∧ (z : ℚ) * x ≥ 0
  else if rm = 2 then x ≤ (z : ℚ) ∧ (z : ℚ) < x + 1
  else (z : ℚ) ≤ x ∧ x < (z : ℚ) + 1

/-! ### Memory -/

/-- Memory as it stands once every buffered write has left; a write that no memory takes is lost
(20_memory R160, 60_exceptions R707). -/
def State.settledMem (s : State) : List Host.Cell := s.pendingMem

/-- One byte of memory, buffered writes included. -/
def State.byteAt (s : State) (a : Nat) : Byte := Memory.read s.settledMem a

/-- The reference to `va` translates to `pa` with a cache attribute: a defined translation, which keeps the offset
in the smallest page (21_mmu_tlb R207). -/
def State.maps (s : State) (k : AccessKind) (va : DWord) (pa : PAddr) (attr : BitVec 3) : Prop :=
  s.translate k va = .ok pa attr ∧ pa.extractLsb' 0 12 = va.extractLsb' 0 12

/-- Memory answers every buffered write (00_scope R11), no other bus master writes during the
instruction, and no read response is waiting to be taken. -/
def State.quiet (s : State) : Prop :=
  (∀ e ∈ s.wbuf, s.cfg.kindOf e = none) ∧ s.dma = [] ∧ s.busReply = none

/-- Request `r` puts buffered write `e` on the system interface, whatever its reserved bits and the lanes of no valid
byte carry (61_system_interface R784, R785, R791). -/
def State.sent (s : State) (e : WEntry) (r : BusReq) : Prop :=
  match e with
  | .word pa n d => ∃ unused u, r = .write pa n (wordCycle s.cfg.bigEndian pa n d unused u)
  | .line pa d par retained _ => ∃ u, r = .blockWrite pa retained (lineCycles s.cfg.bigEndian d par u)

/-- Memory answers an access of `n` bytes at `pa`, 32 for a block, and the machine is quiet. -/
def State.plain (s : State) (pa : PAddr) (n : Nat) : Prop := s.cfg.kindAt pa n = none ∧ s.quiet

/-- The memory address of the byte `k` places after the byte at `pa`, as the processor counts them: Status.RE turns
the bytes of a doubleword round (20_memory R141). -/
def State.byteAddr (s : State) (pa : PAddr) (k : Nat) : Nat :=
  (busAddr s.reverseEndian (pa + BitVec.ofNat 36 k) 1).toNat

/-- The memory address of the byte `k` places before the byte at `pa`. -/
def State.byteAddrBefore (s : State) (pa : PAddr) (k : Nat) : Nat :=
  (busAddr s.reverseEndian (pa - BitVec.ofNat 36 k) 1).toNat

/-- The number whose bytes are `f 0 .. f (n-1)`; the first is the most significant one if `be`
(20_memory R142, R143). -/
def bytesValue (be : Bool) (f : Nat → Byte) : Nat → Nat
  | 0 => 0
  | n + 1 =>
    if be then bytesValue be f n * 256 + (f n).toNat else bytesValue be f n + (f n).toNat * 256 ^ n

/-- Byte `k` of the low `n` bytes of a register as a store lays them out. -/
def storedByte (be : Bool) (v : DWord) (n k : Nat) : Byte :=
  v.extractLsb' (8 * (if be then n - 1 - k else k)) 8

/-- Nothing changed but general register `rd`, the program counter, Random, the record of late writes and the bus;
buffered writes may have reached memory. -/
structure State.OnlyGprAndBus (s t : State) (rd : Reg) : Prop where
  others : ∀ r : Reg, r ≠ rd → t.gprHeld r = s.gprHeld r
  bytes : ∀ a : Nat, t.byteAt a = s.byteAt a
  rest : t = { s with
    gpr := t.gpr, pc := t.pc, pending := t.pending, hist := t.hist, mem := t.mem, wbuf := t.wbuf, bus := t.bus
    cp0 := { s.cp0 with random := t.cp0.random } }
  late : ∀ h ∈ t.hist, h ∈ s.hist

/-- A load completed through the bus with `v` in general register `rd`. -/
structure State.LoadedFromBus (s t : State) (rd : Reg) (v : DWord) : Prop where
  result : t.gprHeld rd = if rd = 0 then 0 else v
  frame : s.OnlyGprAndBus t rd
  continued : s.Continued t

/-- Every new late write is one of memory, for a fetch of what was written (70_reset_and_hazards R864). -/
def State.lateCode (s t : State) : Prop := ∀ h ∈ t.hist, h ∈ s.hist ∨ h.what.isCode = true

/-- Nothing changed but memory, the write buffer, the bus, the program counter, Random and the record of late
writes. -/
def State.onlyMemory (s t : State) : Prop :=
  s.lateCode t ∧ t = { s with
    pc := t.pc, pending := t.pending, mem := t.mem, wbuf := t.wbuf, bus := t.bus, hist := t.hist
    cp0 := { s.cp0 with random := t.cp0.random } }

/-- A store of `n` bytes completed: byte `k` of the register went to the address `addr k`, every other byte of memory
is as before. -/
structure State.Stored (s t : State) (n : Nat) (addr : Nat → Nat) (byte : Nat → Byte) : Prop where
  stored : ∀ k : Nat, k < n → t.byteAt (addr k) = byte k
  others : ∀ a : Nat, (∀ k : Nat, k < n → a ≠ addr k) → t.byteAt a = s.byteAt a
  frame : s.onlyMemory t
  continued : s.Continued t

/-- Nothing changed but line `i` of the data cache, the program counter and Random: no register, no byte of
memory. -/
structure State.OnlyDline (s t : State) (i : Nat) : Prop where
  lines : ∀ j : Nat, j ≠ i → t.dline j = s.dline j
  bytes : ∀ a : Nat, t.byteAt a = s.byteAt a
  rest : t = { s with
    pc := t.pc, pending := t.pending, dcache := t.dcache
    cp0 := { s.cp0 with random := t.cp0.random } }

/-- The effective address: the sign-extended offset added to the base register (40_loads_stores R310). -/
def State.address (s : State) (base : Reg) (offset : BitVec 16) : DWord :=
  BitVec.ofInt 64 ((s.readGpr base).toInt + offset.toInt)

/-- An aligned reference of `n` bytes that goes to memory, uncached (20_memory R148, 22_caches R250). -/
def State.uncached (s : State) (k : AccessKind) (va : DWord) (n : Nat) (pa : PAddr) : Prop :=
  va.toNat % n = 0 ∧ s.maps k va pa 2 ∧ s.plain (busAddr s.reverseEndian pa n) n

/-- The number an aligned load of `n` bytes finds in memory (20_memory R142, R143). -/
def State.memNumber (s : State) (pa : PAddr) (n : Nat) : Nat :=
  bytesValue s.bigEndianCPU (fun k => s.byteAt (s.byteAddr pa k)) n

/-- The number an aligned load of `n` bytes finds in line `i` of the data cache. -/
def State.lineNumber (s : State) (i : Nat) (pa : PAddr) (n : Nat) : Nat :=
  bytesValue s.bigEndianCPU (fun k => lineByte (s.dline i).data (s.byteAddr pa k % 32)) n

/-- An aligned reference of `n` bytes that hits line `i` of the data cache (22_caches R233, R251). -/
def State.hitsLine (s : State) (k : AccessKind) (va : DWord) (n : Nat) (pa : PAddr) (attr : BitVec 3) (i : Nat) :
    Prop :=
  va.toNat % n = 0 ∧ s.maps k va pa attr ∧ attr ≠ 2 ∧ s.dLookup va pa = some i

/-- Line `i` has good parity where a reference to `pa` reads it (60_exceptions R714). -/
def State.goodAt (s : State) (i : Nat) (pa : PAddr) : Prop :=
  (s.dline i).tagGood = true ∧ (s.dline i).dwordGood (pa.toNat / 8 % 4) = true

/-- `n` bytes read as a number, extended to 64 bits (40_loads_stores R314 to R320). -/
def extended (signed : Bool) (n N : Nat) : DWord :=
  if signed then BitVec.ofInt 64 ((N : Int).bmod (2 ^ (8 * n))) else BitVec.ofNat 64 N

/-- The aligned loads: bytes, sign extension, whether a 64-bit operation (40_loads_stores R314 to R320). -/
def alignedLoads (base rt : Reg) (offset : BitVec 16) : List (Instr × Nat × Bool × Bool) :=
  [(.lb base rt offset, 1, true, false), (.lbu base rt offset, 1, false, false),
   (.lh base rt offset, 2, true, false), (.lhu base rt offset, 2, false, false),
   (.lw base rt offset, 4, true, false), (.lwu base rt offset, 4, false, true),
   (.ld base rt offset, 8, false, true)]

/-- The aligned stores: bytes, whether a 64-bit operation (40_loads_stores R321 to R324). -/
def alignedStores (base rt : Reg) (offset : BitVec 16) : List (Instr × Nat × Bool) :=
  [(.sb base rt offset, 1, false), (.sh base rt offset, 2, false), (.sw base rt offset, 4, false),
   (.sd base rt offset, 8, true)]

/-- The unaligned loads: whether a left form, bytes of the unit (40_loads_stores R326, R327, R330, R331). -/
def partialLoads (base rt : Reg) (offset : BitVec 16) : List (Instr × Bool × Nat) :=
  [(.lwl base rt offset, true, 4), (.lwr base rt offset, false, 4),
   (.ldl base rt offset, true, 8), (.ldr base rt offset, false, 8)]

/-- The unaligned stores (40_loads_stores R328, R329, R332, R333). -/
def partialStores (base rt : Reg) (offset : BitVec 16) : List (Instr × Bool × Nat) :=
  [(.swl base rt offset, true, 4), (.swr base rt offset, false, 4),
   (.sdl base rt offset, true, 8), (.sdr base rt offset, false, 8)]

/-- Whether the bytes a left or right form moves lie at `va` and above it (else at `va` and below it): the left forms
of a big-endian processor and the right forms of a little-endian one (40_loads_stores R325). -/
def State.upward (s : State) (left : Bool) : Bool := left == s.bigEndianCPU

/-- How many bytes a left or right form moves: from `va` to the end of its unit of `n` bytes, upward or
downward. -/
def State.movedBytes (s : State) (left : Bool) (n : Nat) (va : DWord) : Nat :=
  if s.upward left then n - va.toNat % n else va.toNat % n + 1

/-- The memory address of the `k`-th byte a left or right form moves; the first is at `va`. -/
def State.movedAddr (s : State) (left : Bool) (pa : PAddr) (k : Nat) : Nat :=
  if s.upward left then s.byteAddr pa k else s.byteAddrBefore pa k

/-- The place in the unit of `n` bytes of the `k`-th byte moved, 0 for the least significant: the left forms begin
at the most significant byte, the right forms at the least. -/
def movedPlace (left : Bool) (n k : Nat) : Nat := if left then n - 1 - k else k

/-- Byte `k` of a number of 64 bits, 0 for the least significant. -/
def byteOf (v : DWord) (k : Nat) : Byte := v.extractLsb' (8 * k) 8

/-! ### Exceptions, system registers, caches -/

/-- Nothing changed but system registers, the timer latch, the TLB, the program counter and the record of late
writes: no general or floating-point register, no byte of memory, no cache line. -/
structure State.OnlySystem (s t : State) : Prop where
  bytes : ∀ a : Nat, Memory.read t.mem a = Memory.read s.mem a
  rest : t = { s with
    cp0 := t.cp0, timerInt := t.timerInt, tlb := t.tlb, pc := t.pc, pending := t.pending, hist := t.hist }

/-- Every CP0 register reads as before but those listed, Random and, where the timer latch changed, Cause. -/
def State.keepsCp0 (s t : State) (except : List Reg) : Prop :=
  ∀ r : Reg, r ∉ except → r ≠ 1 → (r = 13 → t.timerInt = s.timerInt) → t.cp0Get r = s.cp0Get r

/-- An MTC0 or DMTC0 completed and left `v` in CP0 register `rd`; nothing else changed but what the write of Wired,
Count or Compare does to Random and the timer latch (11_cp0_registers R80, R86, R87, R119). -/
structure State.WroteCp0 (s t : State) (rd : Reg) (v : DWord) : Prop where
  value : t.cp0Get rd = v
  others : s.keepsCp0 t [rd]
  frame : s.OnlySystem t
  tlb : t.tlb = s.tlb
  pc : t.pc = s.nextPc
  slot : t.pending = none
  random : if rd = 6 then t.cp0.random = 47 else s.randomSteps t
  timer : t.timerInt =
    if rd = 11 then false
    else if rd = 9 then s.timerInt || decide (t.cp0.count = s.cp0.compare)
    else s.timerInt

/-- Nothing changed but lines of the two caches, the write buffer, memory, the bus, LLbit, Status.CH, TagLo, ECC, the
program counter, Random and the record of late writes; buffered writes may have reached memory. -/
def State.onlyCaches (s t : State) : Prop :=
  (∀ h ∈ t.hist, h ∈ s.hist ∨ h.what.isCode = true ∨ ∃ i l, h.what = .icache i l) ∧ t = { s with
    icache := t.icache, dcache := t.dcache, wbuf := t.wbuf, mem := t.mem, bus := t.bus, llbit := t.llbit
    pc := t.pc, pending := t.pending, hist := t.hist
    cp0 := { s.cp0 with
      random := t.cp0.random, status := t.cp0.status, tagLo := t.cp0.tagLo, ecc := t.cp0.ecc } }

/-- No other line of the data cache changed, none of the instruction cache. -/
def State.onlyD (s t : State) (i : Nat) : Prop := (∀ j : Nat, j ≠ i → t.dline j = s.dline j) ∧ t.icache = s.icache

/-- No other line of the instruction cache changed, none of the data cache. -/
def State.onlyI (s t : State) (i : Nat) : Prop := (∀ j : Nat, j ≠ i → t.iline j = s.iline j) ∧ t.dcache = s.dcache

/-- TagLo and ECC are as before: only Index Load Tag writes them (22_caches R245). -/
def State.keepsTags (s t : State) : Prop := t.cp0.tagLo = s.cp0.tagLo ∧ t.cp0.ecc = s.cp0.ecc

/-- The write buffer holds line `i` as it was, if it was modified, and nothing else: its data and parity for the address
its tag and its place give (22_caches R242, R251, R260). -/
def State.wroteBack (s t : State) (i : Nat) (modified retained : Bool) : Prop :=
  t.wbuf =
    if modified then [.line (s.lineAddr (s.dline i).tag i) (s.dline i).data (s.dline i).par retained (false, i)] else []

/-- Line `i` of the data cache holds modified data (22_caches R251). -/
def State.modified (s : State) (i : Nat) : Bool := (s.dline i).state != 0 && (s.dline i).w

/-- Line `i` of the data cache was refilled from the line of memory that contains `pa`: Dirty Exclusive, not modified,
good parity (22_caches R251). -/
structure State.Refilled (s t : State) (i : Nat) (pa : PAddr) : Prop where
  tag : (t.dline i).tag.toNat = pa.toNat / 4096
  state : (t.dline i).state = 3
  w : (t.dline i).w = false
  good : (t.dline i).errs = 0 ∧ (t.dline i).tagGood = true
  data : ∀ k < 32, lineByte (t.dline i).data k = s.byteAt (pa.toNat / 32 * 32 + k)
  others : ∀ j : Nat, j ≠ i → t.dline j = s.dline j

/-- Status.CH is `hit`, and no other bit of Status changed (22_caches R258). -/
def State.ranCH (s t : State) (hit : Bool) : Prop :=
  ∀ b : Nat, b < 32 → t.cp0.status.getLsbD b = if b = 18 then hit else s.cp0.status.getLsbD b

end Sys2Proof.Machine
end

