-- ==== Sys2Proof/Certificates/Slice0/Obligations.lean ====
section
/-! DEFINITION. The statements for the provers. Each names the rules of spec/ it formalises in its docstring;
OBLIGATIONS.json lists them. `s.completes i p`: instruction `i` answers a next state, which is as `p` says. -/
open Sys2Proof Sys2Proof.Machine

/-! ### Encoding (30_encoding) -/

/-- Every well-formed instruction is read back from its encoding, with every operand; and what the decoder reads is
well-formed and its encoding is the word read (30_encoding R272 to R292). -/
def Obligations.DecodeEncodeAgree : Prop :=
  (∀ i : Instr, i.wf = true → decode (encode i) = .instr i) ∧
  (∀ (w : Word) (i : Instr), decode w = .instr i → i.wf = true ∧ encode i = w)

/-- Words written out from the encodings decode to the instructions they stand for (30_encoding R292). -/
def Obligations.DecodeWords : Prop :=
  decode 0x00221820#32 = .instr (.add 1 2 3) ∧ decode 0x2023FFFF#32 = .instr (.addi 1 3 0xFFFF) ∧
  decode 0x00021FC3#32 = .instr (.sra 2 3 31) ∧ decode 0x0022001C#32 = .instr (.dmult 1 2) ∧
  decode 0x1422FFFD#32 = .instr (.bne 1 2 0xFFFD) ∧ decode 0x0C000800#32 = .instr (.jal 0x800) ∧
  decode 0x03FFFFCC#32 = .instr (.syscall 0xFFFFF) ∧ decode 0x8C820004#32 = .instr (.lw 4 2 4) ∧
  decode 0xFC820000#32 = .instr (.sd 4 2 0) ∧ decode 0xBC990000#32 = .instr (.cache 4 0x19 0) ∧
  decode 0x40826000#32 = .instr (.mtc0 2 12) ∧ decode 0x42000018#32 = .instr .eret ∧
  decode 0x46241000#32 = .instr (.addFmt 17 4 2 0) ∧ decode 0x4604103C#32 = .instr (.cCondFmt 16 4 2 12) ∧
  decode 0x48021800#32 = .instr (.mfc2 2 3)

/-- Undefined major opcodes, SPECIAL functions and REGIMM codes are no instruction, and running one takes the
Reserved Instruction exception (30_encoding R283, R284, R290). -/
def Obligations.ReservedWordsTrap : Prop :=
  ∀ (w : Word) (s : State),
    (opOf w).toNat ∈ [19, 28, 29, 30, 31, 51, 59] ∨
    (opOf w = 0 ∧ (fnOf w).toNat ∈ [1, 5, 10, 11, 14, 21, 40, 41, 53, 55, 57, 61]) ∨
    (opOf w = 1 ∧ (rtOf w).toNat ∈ [4, 5, 6, 7, 13, 15, 20, 21, 22, 23, 24, 25, 26, 27, 28, 29, 30, 31]) →
    decode w = .reserved ∧ s.runDecoded exec (decode w) = .next (s.raise .reservedInstruction)

/-! ### The step -/

/-- Between instructions, with no input, the system interface in master state, no pending interrupt and no
nonmaskable interrupt, a step runs the instruction that the word fetched at pc decodes to; around it the oldest buffered
write leaves, late writes grow one instruction older, and Count advances. Where the instruction takes an exception or is
ERET, `afterRun` adds what the killed fetches behind it may have done to the address registers (log 10);
where it waits for a read, `holdWord` keeps its word; otherwise neither does anything (30_encoding R292, 20_memory R147,
60_exceptions R698, 70_reset_and_hazards R857). -/
def Obligations.StepRunsDecodedInstruction : Prop :=
  ∀ (s s1 s2 : State) (w : Word) (i : Instr),
    s.inputs = [] → s.busWait = none → s.slave = false → s.standby = false → s.nmiLatch = false →
    (s.nmiLevel = true → s.nmiPrev = true) →
    { s with exc := false, nmiPrev := s.nmiLevel, dma := [] }.drainOne = .ok () s1 →
    s1.startInstr.takesInterrupt = false →
    s1.startInstr.fetch = .ok w s2 → decode w = .instr i →
    step s = endStep (s1.startInstr.afterRun exec (holdWord w (exec i s2))) ∧
    ∀ t, exec i s2 = .next t → t.exc = false → t.busWait = none → i ≠ .eret → step s = .next t.tick

/-- An instruction fetch at an aligned, uncached address reads the four bytes of memory there, the most significant
first in a big-endian system, whatever Status.RE says, unless they were written within the last three instructions; it
changes nothing but the bus (20_memory R147, R148, 22_caches R250, 70_reset_and_hazards R864). -/
def Obligations.FetchReadsMemory : Prop :=
  ∀ (s : State) (pa : PAddr),
    s.pc.toNat % 4 = 0 → s.maps .fetch s.pc pa 2 → s.plain pa 4 → s.wbuf = [] →
    (∀ h ∈ s.hist, h.what.isCode = false) →
    ∃ w : Word,
      s.fetch = .ok w { s with bus := .read pa 4 :: s.bus } ∧
      w.toNat = bytesValue s.cfg.bigEndian (fun k => Memory.read s.mem (pa.toNat + k)) 4

/-! ### Reset and invariants -/

/-- What Reset leaves: pc at the reset vector, Status.ERL and BEV 1, SR and bit 21 zero, Random 47, Wired 0, Config
but for K0, no write buffered, kernel mode, interrupts off (10_state R60, 70_reset_and_hazards R830, R839). -/
def Obligations.ResetValues : Prop :=
  State.reset.pc = 0xFFFFFFFFBFC00000#64 ∧
  stERL State.reset.cp0.status = true ∧ stBEV State.reset.cp0.status = true ∧
  State.reset.cp0.status.getLsbD 20 = false ∧ State.reset.cp0.status.getLsbD 21 = false ∧
  State.reset.cp0.random = 47 ∧ State.reset.cp0.wired = 0 ∧
  State.reset.cp0.config &&& ~~~7#32 = 0x1000E4B0#32 ∧
  State.reset.wbuf = [] ∧ State.reset.gprHeld 0 = 0 ∧
  modeOf State.reset.cp0.status = some .kernel ∧ State.reset.interruptsEnabled = false

/-- The state after reset satisfies the four invariants (derived; the values the spec leaves open are log 1's). -/
def Obligations.ResetWellFormed : Prop :=
  State.reset.memoryWf ∧ State.reset.FieldsOk ∧ State.reset.randomOk ∧ State.reset.bufferOk

/-- Every step keeps memory and both caches in canonical form, no cache line outside the 512 of each cache appears, and
the line a pending read refills and the one in the write buffer are of the 512 (22_caches R230, R231). -/
def Obligations.StepKeepsMemoryForm : Prop :=
  ∀ s t : State, s.memoryWf → step s = .next t → t.memoryWf

/-- Every step keeps the reserved fields of the CP0 registers and FCR31 zero, Config's fixed bits as the boot stream
set them, every TLB entry's VPN2 free of masked bits, and r0 zero (11_cp0_registers R72 to R119, 21_mmu_tlb R201,
10_state R31). -/
def Obligations.StepKeepsFields : Prop :=
  ∀ s t : State, s.FieldsOk → step s = .next t → t.FieldsOk

/-- Every step keeps Random between Wired and 47 while Wired is at most 47 (11_cp0_registers R74, R80). -/
def Obligations.StepKeepsRandom : Prop :=
  ∀ s t : State, s.randomOk → step s = .next t → t.randomOk

/-- Every step keeps the write buffer within four entries, a line alone (20_memory R160, R162). -/
def Obligations.StepKeepsWriteBuffer : Prop :=
  ∀ s t : State, s.bufferOk → step s = .next t → t.bufferOk

/-! ### Integer arithmetic and logic (41_alu) -/

/-- The 32-bit sums and differences of sign-extended operands: exact, or Integer Overflow with nothing written; the
unsigned forms wrap to 32 bits (41_alu R360, R362 to R367). -/
def Obligations.AddSub32 : Prop :=
  ∀ (s : State) (rs rt rd : Reg) (imm : BitVec 16),
    let a := (s.readGpr rs).toInt
    let b := (s.readGpr rt).toInt
    let c := imm.toInt
    fits 32 a →
      (fits 32 (a + c) → s.completes (.addi rs rt imm) (s.Wrote · rt (BitVec.ofInt 64 (a + c)))) ∧
      (¬ fits 32 (a + c) → s.traps (.addi rs rt imm) .overflow) ∧
      s.completes (.addiu rs rt imm) (s.Wrote · rt (BitVec.ofInt 64 ((a + c).bmod (2 ^ 32)))) ∧
      (fits 32 b →
        (fits 32 (a + b) → s.completes (.add rs rt rd) (s.Wrote · rd (BitVec.ofInt 64 (a + b)))) ∧
        (¬ fits 32 (a + b) → s.traps (.add rs rt rd) .overflow) ∧
        (fits 32 (a - b) → s.completes (.sub rs rt rd) (s.Wrote · rd (BitVec.ofInt 64 (a - b)))) ∧
        (¬ fits 32 (a - b) → s.traps (.sub rs rt rd) .overflow) ∧
        s.completes (.addu rs rt rd) (s.Wrote · rd (BitVec.ofInt 64 ((a + b).bmod (2 ^ 32)))) ∧
        s.completes (.subu rs rt rd) (s.Wrote · rd (BitVec.ofInt 64 ((a - b).bmod (2 ^ 32)))))

/-- The 64-bit sums and differences, where 64-bit operations are enabled: exact, or Integer Overflow with nothing
written; the unsigned forms wrap. Where they are not enabled, Reserved Instruction (41_alu R368 to R373). -/
def Obligations.AddSub64 : Prop :=
  ∀ (s : State) (rs rt rd : Reg) (imm : BitVec 16),
    let a := (s.readGpr rs).toInt
    let b := (s.readGpr rt).toInt
    let c := imm.toInt
    (s.ops64Enabled = false → ∀ i ∈ [Instr.dadd rs rt rd, .daddu rs rt rd, .dsub rs rt rd, .dsubu rs rt rd,
      .daddi rs rt imm, .daddiu rs rt imm], s.traps i .reservedInstruction) ∧
    (s.ops64Enabled = true →
      (fits 64 (a + b) → s.completes (.dadd rs rt rd) (s.Wrote · rd (BitVec.ofInt 64 (a + b)))) ∧
      (¬ fits 64 (a + b) → s.traps (.dadd rs rt rd) .overflow) ∧
      (fits 64 (a - b) → s.completes (.dsub rs rt rd) (s.Wrote · rd (BitVec.ofInt 64 (a - b)))) ∧
      (¬ fits 64 (a - b) → s.traps (.dsub rs rt rd) .overflow) ∧
      (fits 64 (a + c) → s.completes (.daddi rs rt imm) (s.Wrote · rt (BitVec.ofInt 64 (a + c)))) ∧
      (¬ fits 64 (a + c) → s.traps (.daddi rs rt imm) .overflow) ∧
      s.completes (.daddu rs rt rd) (s.Wrote · rd (BitVec.ofInt 64 ((a + b).bmod (2 ^ 64)))) ∧
      s.completes (.dsubu rs rt rd) (s.Wrote · rd (BitVec.ofInt 64 ((a - b).bmod (2 ^ 64)))) ∧
      s.completes (.daddiu rs rt imm) (s.Wrote · rt (BitVec.ofInt 64 ((a + c).bmod (2 ^ 64)))))

/-- The logical instructions work on all 64 bits; the immediate of ANDI, ORI and XORI is zero-extended, that of LUI
goes to the upper half of a sign-extended word. SLT and SLTI compare all 64 bits as signed numbers, SLTU and SLTIU as
unsigned ones, the immediate sign-extended in both; the result is 1 or 0 (41_alu R374 to R385). -/
def Obligations.LogicAndCompare : Prop :=
  ∀ (s : State) (rs rt rd : Reg) (imm : BitVec 16) (v : DWord),
    let a := s.readGpr rs
    let b := s.readGpr rt
    let c : DWord := BitVec.ofInt 64 imm.toInt
    ((∀ k < 64, v.getLsbD k = (a.getLsbD k && b.getLsbD k)) → s.completes (.and rs rt rd) (s.Wrote · rd v)) ∧
    ((∀ k < 64, v.getLsbD k = (a.getLsbD k || b.getLsbD k)) → s.completes (.or rs rt rd) (s.Wrote · rd v)) ∧
    ((∀ k < 64, v.getLsbD k = (a.getLsbD k != b.getLsbD k)) → s.completes (.xor rs rt rd) (s.Wrote · rd v)) ∧
    ((∀ k < 64, v.getLsbD k = !(a.getLsbD k || b.getLsbD k)) → s.completes (.nor rs rt rd) (s.Wrote · rd v)) ∧
    ((∀ k < 64, v.getLsbD k = (a.getLsbD k && imm.getLsbD k)) → s.completes (.andi rs rt imm) (s.Wrote · rt v)) ∧
    ((∀ k < 64, v.getLsbD k = (a.getLsbD k || imm.getLsbD k)) → s.completes (.ori rs rt imm) (s.Wrote · rt v)) ∧
    ((∀ k < 64, v.getLsbD k = (a.getLsbD k != imm.getLsbD k)) → s.completes (.xori rs rt imm) (s.Wrote · rt v)) ∧
    (v.toInt = imm.toInt * 65536 → s.completes (.lui rt imm) (s.Wrote · rt v)) ∧
    s.completes (.slt rs rt rd) (s.Wrote · rd (if a.toInt < b.toInt then 1 else 0)) ∧
    s.completes (.sltu rs rt rd) (s.Wrote · rd (if a.toNat < b.toNat then 1 else 0)) ∧
    s.completes (.slti rs rt imm) (s.Wrote · rt (if a.toInt < imm.toInt then 1 else 0)) ∧
    s.completes (.sltiu rs rt imm) (s.Wrote · rt (if a.toNat < c.toNat then 1 else 0))

/-- Where the spec leaves the result open, an instruction still completes: 32-bit operations on operands that are not
sign-extended, and divisions by zero. Nothing but the destination changes (41_alu R360 item 2, 42_shifts_muldiv
R400, R420, R424). -/
def Obligations.OpenResultsComplete : Prop :=
  ∀ (s : State) (rs rt rd : Reg) (sa : BitVec 5) (imm : BitVec 16),
    (∀ i ∈ [Instr.addu rs rt rd, .subu rs rt rd, .sll rt rd sa, .srl rt rd sa, .sra rt rd sa, .sllv rs rt rd,
        .srlv rs rt rd, .srav rs rt rd], s.completes i fun t => ∃ v, s.Wrote t rd v) ∧
    s.completes (.addiu rs rt imm) (fun t => ∃ v, s.Wrote t rt v) ∧
    (s.traps (.add rs rt rd) .overflow ∨ s.completes (.add rs rt rd) fun t => ∃ v, s.Wrote t rd v) ∧
    (s.traps (.sub rs rt rd) .overflow ∨ s.completes (.sub rs rt rd) fun t => ∃ v, s.Wrote t rd v) ∧
    (s.traps (.addi rs rt imm) .overflow ∨ s.completes (.addi rs rt imm) fun t => ∃ v, s.Wrote t rt v) ∧
    (∀ i ∈ [Instr.mult rs rt, .multu rs rt, .div rs rt, .divu rs rt],
      s.completes i fun t => ∃ hi lo, s.WroteHiLo t hi lo) ∧
    (s.ops64Enabled = true → ∀ i ∈ [Instr.ddiv rs rt, .ddivu rs rt],
      s.completes i fun t => ∃ hi lo, s.WroteHiLo t hi lo)

/-! ### Shifts, multiply and divide (42_shifts_muldiv) -/

/-- The 32-bit shifts of a sign-extended word: left, right with zeros, right with the sign; the variable forms use
the low five bits of rs (42_shifts_muldiv R400 to R406). -/
def Obligations.Shift32Result : Prop :=
  ∀ (s : State) (rs rt rd : Reg) (sa : BitVec 5),
    let a := (s.readGpr rt).toInt
    let n := sa.toNat
    let m := (s.readGpr rs).toNat % 32
    fits 32 a →
      s.completes (.sll rt rd sa) (s.Wrote · rd (BitVec.ofInt 64 ((a * 2 ^ n).bmod (2 ^ 32)))) ∧
      s.completes (.srl rt rd sa) (s.Wrote · rd (BitVec.ofInt 64 ((a % 2 ^ 32 / 2 ^ n).bmod (2 ^ 32)))) ∧
      s.completes (.sra rt rd sa) (s.Wrote · rd (BitVec.ofInt 64 (a / 2 ^ n))) ∧
      s.completes (.sllv rs rt rd) (s.Wrote · rd (BitVec.ofInt 64 ((a * 2 ^ m).bmod (2 ^ 32)))) ∧
      s.completes (.srlv rs rt rd) (s.Wrote · rd (BitVec.ofInt 64 ((a % 2 ^ 32 / 2 ^ m).bmod (2 ^ 32)))) ∧
      s.completes (.srav rs rt rd) (s.Wrote · rd (BitVec.ofInt 64 (a / 2 ^ m)))

/-- The 64-bit shifts, where 64-bit operations are enabled: by sa, by sa + 32, or by the low six bits of rs. Where they
are not enabled, Reserved Instruction (42_shifts_muldiv R407 to R415). -/
def Obligations.Shift64Result : Prop :=
  ∀ (s : State) (rs rt rd : Reg) (sa : BitVec 5),
    let u := (s.readGpr rt).toNat
    let a := (s.readGpr rt).toInt
    let n := sa.toNat
    let m := (s.readGpr rs).toNat % 64
    (s.ops64Enabled = false → ∀ i ∈ [Instr.dsll rt rd sa, .dsll32 rt rd sa, .dsllv rs rt rd, .dsrl rt rd sa,
      .dsrl32 rt rd sa, .dsrlv rs rt rd, .dsra rt rd sa, .dsra32 rt rd sa, .dsrav rs rt rd],
      s.traps i .reservedInstruction) ∧
    (s.ops64Enabled = true →
      s.completes (.dsll rt rd sa) (s.Wrote · rd (BitVec.ofNat 64 (u * 2 ^ n))) ∧
      s.completes (.dsll32 rt rd sa) (s.Wrote · rd (BitVec.ofNat 64 (u * 2 ^ (n + 32)))) ∧
      s.completes (.dsllv rs rt rd) (s.Wrote · rd (BitVec.ofNat 64 (u * 2 ^ m))) ∧
      s.completes (.dsrl rt rd sa) (s.Wrote · rd (BitVec.ofNat 64 (u / 2 ^ n))) ∧
      s.completes (.dsrl32 rt rd sa) (s.Wrote · rd (BitVec.ofNat 64 (u / 2 ^ (n + 32)))) ∧
      s.completes (.dsrlv rs rt rd) (s.Wrote · rd (BitVec.ofNat 64 (u / 2 ^ m))) ∧
      s.completes (.dsra rt rd sa) (s.Wrote · rd (BitVec.ofInt 64 (a / 2 ^ n))) ∧
      s.completes (.dsra32 rt rd sa) (s.Wrote · rd (BitVec.ofInt 64 (a / 2 ^ (n + 32)))) ∧
      s.completes (.dsrav rs rt rd) (s.Wrote · rd (BitVec.ofInt 64 (a / 2 ^ m))))

/-- HI and LO together hold the exact product; the 32-bit forms take sign-extended operands and write each half
sign-extended; the 64-bit forms take Reserved Instruction where 64-bit operations are not enabled (42_shifts_muldiv
R421, R422, R426, R427). -/
def Obligations.MultiplyResult : Prop :=
  ∀ (s : State) (rs rt : Reg),
    let x := s.readGpr rs
    let y := s.readGpr rt
    (fits 32 x.toInt → fits 32 y.toInt →
      s.completes (.mult rs rt) (fun t => ∃ hi lo, s.WroteHiLo t hi lo ∧ fits 32 hi.toInt ∧ fits 32 lo.toInt ∧
        hi.toInt * 2 ^ 32 + lo.toInt % 2 ^ 32 = x.toInt * y.toInt) ∧
      s.completes (.multu rs rt) (fun t => ∃ hi lo, s.WroteHiLo t hi lo ∧ fits 32 hi.toInt ∧ fits 32 lo.toInt ∧
        hi.toInt % 2 ^ 32 * 2 ^ 32 + lo.toInt % 2 ^ 32 = x.toInt % 2 ^ 32 * (y.toInt % 2 ^ 32))) ∧
    (s.ops64Enabled = true →
      s.completes (.dmult rs rt) (fun t => ∃ hi lo, s.WroteHiLo t hi lo ∧
        hi.toInt * 2 ^ 64 + lo.toNat = x.toInt * y.toInt) ∧
      s.completes (.dmultu rs rt) (fun t => ∃ hi lo, s.WroteHiLo t hi lo ∧
        hi.toNat * 2 ^ 64 + lo.toNat = x.toNat * y.toNat)) ∧
    (s.ops64Enabled = false → ∀ i ∈ [Instr.dmult rs rt, .dmultu rs rt], s.traps i .reservedInstruction)

/-- LO receives the quotient rounded toward zero and HI the remainder, which has the dividend's sign; the most
negative number divided by -1 wraps (42_shifts_muldiv R423 to R425, R428, R429). -/
def Obligations.DivideResult : Prop :=
  ∀ (s : State) (rs rt : Reg),
    let x := s.readGpr rs
    let y := s.readGpr rt
    y ≠ 0 →
    (fits 32 x.toInt → fits 32 y.toInt →
      s.completes (.div rs rt) (s.WroteHiLo · (BitVec.ofInt 64 (x.toInt.tmod y.toInt))
        (BitVec.ofInt 64 ((x.toInt.tdiv y.toInt).bmod (2 ^ 32)))) ∧
      s.completes (.divu rs rt) (s.WroteHiLo ·
        (BitVec.ofInt 64 ((x.toInt % 2 ^ 32 % (y.toInt % 2 ^ 32)).bmod (2 ^ 32)))
        (BitVec.ofInt 64 ((x.toInt % 2 ^ 32 / (y.toInt % 2 ^ 32)).bmod (2 ^ 32))))) ∧
    (s.ops64Enabled = true →
      s.completes (.ddiv rs rt) (s.WroteHiLo · (BitVec.ofInt 64 (x.toInt.tmod y.toInt))
        (BitVec.ofInt 64 (x.toInt.tdiv y.toInt))) ∧
      s.completes (.ddivu rs rt) (s.WroteHiLo · (BitVec.ofNat 64 (x.toNat % y.toNat))
        (BitVec.ofNat 64 (x.toNat / y.toNat))))

/-- MFHI and MFLO copy HI or LO to a general register; MTHI and MTLO write one of the two and leave the other,
unless a multiply or divide wrote both and nothing has read them since: then the other is open
(42_shifts_muldiv R430 to R434). -/
def Obligations.HiLoMoves : Prop :=
  ∀ (s : State) (r : Reg),
    s.completes (.mfhi r) ({ s with hiloFresh := false }.WroteLate · r s.hi) ∧
    s.completes (.mflo r) ({ s with hiloFresh := false }.WroteLate · r s.lo) ∧
    (s.hiloFresh = false → s.completes (.mthi r) (s.WroteHiLo · (s.readGpr r) s.lo)) ∧
    (s.hiloFresh = false → s.completes (.mtlo r) (s.WroteHiLo · s.hi (s.readGpr r))) ∧
    (s.hiloFresh = true → s.completes (.mthi r) fun t => t.hiloFresh = false ∧ ∃ lo, s.WroteHiLo t (s.readGpr r) lo) ∧
    (s.hiloFresh = true → s.completes (.mtlo r) fun t => t.hiloFresh = false ∧ ∃ hi, s.WroteHiLo t hi (s.readGpr r))

/-! ### Jumps and branches (43_jumps_branches) -/

/-- Outside a delay slot a jump makes the next instruction its delay slot and goes to its target after it; JAL and
JALR write the address after the slot. With rs = rd, JALR's link and target are open (43_jumps_branches R440, R442 to
R445). -/
def Obligations.Jumps : Prop :=
  ∀ (s : State) (target : BitVec 26) (rs rd : Reg), s.pending = none →
    let dest := BitVec.ofNat 64 ((s.pc + 4).toNat / 2 ^ 28 * 2 ^ 28 + target.toNat * 4)
    s.completes (.j target) (fun t => s.BranchLinked t 0 0 ∧ s.slotThen t dest 0) ∧
    s.completes (.jal target) (fun t => s.BranchLinked t 31 (s.pc + 8) ∧ s.slotThen t dest 31) ∧
    s.completes (.jr rs) (fun t => s.BranchLinked t 0 0 ∧ s.slotThen t (s.readGpr rs) 0) ∧
    (rs ≠ rd ∨ rd = 0 →
      s.completes (.jalr rs rd) fun t => s.BranchLinked t rd (s.pc + 8) ∧ s.slotThen t (s.readGpr rs) rd) ∧
    (rs = rd → rd ≠ 0 →
      s.completes (.jalr rs rd) fun t => ∃ v dest, s.BranchLinked t rd v ∧ s.slotThen t dest rd)

/-- Outside a delay slot a conditional branch tests its registers as signed 64-bit numbers. Taken, the next
instruction is its delay slot and control then goes to the target, pc + 4 + 4 · offset. Not taken, an ordinary branch
goes on after the slot and a likely one skips it. The link is written either way; a branch that links and
tests r31 tests the value from before the link, as R464 item 2 infers (U46, log 24). BC1 branches on the floating-point
condition (43_jumps_branches R440, R441, R446 to R461, R464, 48_fpu_moves R620 to R623). -/
def Obligations.Branches : Prop :=
  ∀ (s : State) (rs rt : Reg) (offset : BitVec 16), s.pending = none →
    let a := (s.readGpr rs).toInt
    let b := (s.readGpr rt).toInt
    let dest := BitVec.ofInt 64 (s.pc.toInt + 4 + 4 * offset.toInt)
    ∀ e ∈ ([(.beq rs rt offset, .beql rs rt offset, a = b, 0), (.bne rs rt offset, .bnel rs rt offset, a ≠ b, 0),
        (.blez rs offset, .blezl rs offset, a ≤ 0, 0), (.bgtz rs offset, .bgtzl rs offset, 0 < a, 0),
        (.bltz rs offset, .bltzl rs offset, a < 0, 0), (.bgez rs offset, .bgezl rs offset, 0 ≤ a, 0),
        (.bltzal rs offset, .bltzall rs offset, a < 0, 31), (.bgezal rs offset, .bgezall rs offset, 0 ≤ a, 31),
        (.bc1f offset, .bc1fl offset, s.condSeen = false, 0), (.bc1t offset, .bc1tl offset, s.condSeen = true, 0)] :
        List (Instr × Instr × Prop × Reg)),
      (e.1 = .bc1f offset ∨ e.1 = .bc1t offset → s.copUsable 1 = true) →
      let linked := fun t => s.BranchLinked t e.2.2.2 (s.pc + 8)
      (e.2.2.1 → s.completes e.1 (fun t => linked t ∧ s.slotThen t dest e.2.2.2)
        ∧ s.completes e.2.1 fun t => linked t ∧ s.slotThen t dest e.2.2.2) ∧
      (¬ e.2.2.1 → s.completes e.1 (fun t => linked t ∧ s.slotThen t (s.pc + 8) e.2.2.2)
        ∧ s.completes e.2.1 fun t => linked t ∧ t.pc = s.pc + 8 ∧ t.pending = none)

/-- A jump or branch in a delay slot still completes: no branch is pending after it, and besides the program counter
only the link registers of the two may have changed, no byte of memory (43_jumps_branches R464 item 1; that it
completes, and what stays, is the model's reading, log 24). -/
def Obligations.BranchInSlot : Prop :=
  ∀ (s : State) (p : Pending) (rs rt rd : Reg) (o : BitVec 16) (target : BitVec 26), s.pending = some p →
    let ends := fun (link : Reg) (t : State) =>
      t.pending = none ∧ (∀ r : Reg, r ≠ p.link → r ≠ link → t.gprHeld r = s.gprHeld r) ∧
      (∀ a : Nat, Memory.read t.mem a = Memory.read s.mem a) ∧
      t = { s with
        gpr := t.gpr, pc := t.pc, pending := t.pending, hist := t.hist
        cp0 := { s.cp0 with random := t.cp0.random } }
    (∀ i ∈ [Instr.j target, .jr rs, .beq rs rt o, .beql rs rt o, .bne rs rt o, .bnel rs rt o, .blez rs o,
        .blezl rs o, .bgtz rs o, .bgtzl rs o, .bltz rs o, .bltzl rs o, .bgez rs o, .bgezl rs o],
      s.completes i (ends 0)) ∧
    (∀ i ∈ [Instr.jal target, .bltzal rs o, .bltzall rs o, .bgezal rs o, .bgezall rs o], s.completes i (ends 31)) ∧
    s.completes (.jalr rs rd) (ends rd) ∧
    ∀ e ∈ [(0, [Instr.bc0f o, .bc0t o, .bc0fl o, .bc0tl o]), (1, [.bc1f o, .bc1t o, .bc1fl o, .bc1tl o]),
        (2, [.bc2f o, .bc2t o, .bc2fl o, .bc2tl o])], s.copUsable e.1 = true → ∀ i ∈ e.2, s.completes i (ends 0)

/-! ### Traps and SYNC (44_traps_special) -/

/-- SYNC sends every buffered write in order and changes nothing else; a write the external agent never accepts stops
the machine. SYSCALL and BREAK take their exceptions. A conditional trap compares all 64 bits, signed or unsigned, the
immediate sign-extended: if the condition holds it takes the Trap exception, else it changes nothing
(44_traps_special R479 to R494, 20_memory R157, R160, R162). -/
def Obligations.TrapsAndSync : Prop :=
  ∀ (s : State) (rs rt : Reg) (imm : BitVec 16) (code : BitVec 10) (code20 : BitVec 20),
    let a := s.readGpr rs
    let b := s.readGpr rt
    let c : DWord := BitVec.ofInt 64 imm.toInt
    (s.quiet → s.completes .sync fun t =>
      t.mem = s.settledMem ∧ t.wbuf = [] ∧ (∃ sent, t.bus = sent.reverse ++ s.bus ∧ List.Forall₂ s.sent s.wbuf sent) ∧
      t.hist = s.hist ∧ s.onlyMemory t ∧ s.Continued t) ∧
    (∀ before e after, s.wbuf = before ++ e :: after → (∀ b ∈ before, s.cfg.kindOf b = none) →
      s.cfg.kindOf e = some .noResponse → exec .sync s = .fault .writeNotAccepted) ∧
    s.traps (.syscall code20) .sysCall ∧ s.traps (.brk code20) .breakpoint ∧
    ∀ e ∈ [(Instr.tge rs rt code, a.toInt ≥ b.toInt), (.tgeu rs rt code, a.toNat ≥ b.toNat),
        (.tlt rs rt code, a.toInt < b.toInt), (.tltu rs rt code, a.toNat < b.toNat),
        (.teq rs rt code, a.toNat = b.toNat), (.tne rs rt code, a.toNat ≠ b.toNat),
        (.tgei rs imm, a.toInt ≥ imm.toInt), (.tgeiu rs imm, a.toNat ≥ c.toNat),
        (.tlti rs imm, a.toInt < imm.toInt), (.tltiu rs imm, a.toNat < c.toNat),
        (.teqi rs imm, a.toInt = imm.toInt), (.tnei rs imm, a.toInt ≠ imm.toInt)],
      (e.2 → s.traps e.1 .trap) ∧ (¬ e.2 → s.completes e.1 (s.Wrote · 0 0))

/-! ### Loads and stores (40_loads_stores, 22_caches) -/

/-- An aligned load from memory, uncached: the register receives the bytes at the address in the processor's byte
order, extended; no byte of memory and no other register changes (40_loads_stores R310 to R320, 20_memory R141 to
R143, 22_caches R250). -/
def Obligations.LoadsUncached : Prop :=
  ∀ (s : State) (base rt : Reg) (offset : BitVec 16) (pa : PAddr),
    ∀ e ∈ alignedLoads base rt offset, (e.2.2.2 = true → s.ops64Enabled = true) →
      s.uncached .load (s.address base offset) e.2.1 pa →
      s.completes e.1 (s.LoadedFromBus · rt (extended e.2.2.1 e.2.1 (s.memNumber pa e.2.1)))

/-- An aligned load that hits the data cache takes the bytes of the line; nothing but the register changes. With bad
parity, unless Status.DE is 1, it takes the Cache Error exception (22_caches R251, 60_exceptions R713, R714). -/
def Obligations.LoadsHit : Prop :=
  ∀ (s : State) (base rt : Reg) (offset : BitVec 16) (pa : PAddr) (attr : BitVec 3) (i : Nat),
    ∀ e ∈ alignedLoads base rt offset, (e.2.2.2 = true → s.ops64Enabled = true) →
      let va := s.address base offset
      s.hitsLine .load va e.2.1 pa attr i →
      (s.goodAt i pa → s.completes e.1 (s.Wrote · rt (extended e.2.2.1 e.2.1 (s.lineNumber i pa e.2.1)))) ∧
      (¬ s.goodAt i pa → stDE (s.statusSeen .parityEnable) = false →
        exec e.1 s = .next (s.raiseCacheError
          { er := true, ed := !(s.dline i).dwordGood (pa.toNat / 8 % 4), et := !(s.dline i).tagGood, ee := false
            va := va, pa := busAddr s.reverseEndian pa e.2.1 }))

/-- An aligned load, or a store with allocation (attributes 1 and 3), that misses the data cache reads its line from
memory into one of the two ways of its set, Dirty Exclusive and not modified; the line it replaces goes to the write
buffer if it was modified, with the address its tag and set give. A load's register receives the bytes from memory. A
write-back store then changes the new line and marks it modified; a write-through one changes the line and memory
(22_caches R235, R242, R251 to R253, R260, 11_cp0_registers R112). -/
def Obligations.CacheMissesRefill : Prop :=
  ∀ (s : State) (base rt : Reg) (offset : BitVec 16) (pa : PAddr) (attr : BitVec 3),
    let va := s.address base offset
    let set := va.toNat / 32 % 256
    let missed := fun (k : AccessKind) (n : Nat) =>
      va.toNat % n = 0 ∧ s.maps k va pa attr ∧ s.dLookup va pa = none ∧ s.plain (dwordAddr pa) 32 ∧
        (s.dline set).errs = 0 ∧ (s.dline (256 + set)).errs = 0
    let only := fun t : State => s.Continued t ∧ s.lateCode t ∧ t = { s with
      gpr := t.gpr, pc := t.pc, pending := t.pending, hist := t.hist, mem := t.mem, wbuf := t.wbuf, bus := t.bus
      dcache := t.dcache, llbit := t.llbit, cp0 := { s.cp0 with random := t.cp0.random } }
    s.memoryWf →
    (∀ e ∈ alignedLoads base rt offset, (e.2.2.2 = true → s.ops64Enabled = true) → missed .load e.2.1 → attr ≠ 2 →
      s.completes e.1 fun t =>
        t.gprHeld rt = (if rt = 0 then 0 else extended e.2.2.1 e.2.1 (s.memNumber pa e.2.1)) ∧
        (∀ r : Reg, r ≠ rt → t.gprHeld r = s.gprHeld r) ∧ t.mem = s.settledMem ∧ only t ∧
        ∃ i, (i = set ∨ i = 256 + set) ∧ s.Refilled t i pa ∧ s.wroteBack t i (s.modified i) false ∧
          t.llbit = (s.llbit && !s.linked i)) ∧
    (∀ e ∈ alignedStores base rt offset, (e.2.2 = true → s.ops64Enabled = true) → missed .store e.2.1 →
      attr = 1 ∨ attr = 3 → stCE (s.statusSeen .forcedParity) = false →
      (attr = 1 → s.plain (busAddr s.reverseEndian pa e.2.1) e.2.1 ∧
        ∀ i ∈ [set, 256 + set], s.cfg.kindAt (s.lineAddr (s.dline i).tag i) 32 = none) →
      let byte := storedByte s.bigEndianCPU (s.readGpr rt) e.2.1
      s.completes e.1 fun t =>
        t.gpr = s.gpr ∧ only t ∧
        ∃ i, (i = set ∨ i = 256 + set) ∧ t.llbit = (s.llbit && !s.linked i) ∧
          (t.dline i).tag.toNat = pa.toNat / 4096 ∧ (t.dline i).state = 3 ∧ (t.dline i).w = decide (attr = 3) ∧
          (t.dline i).errs = 0 ∧ (t.dline i).tagGood = true ∧ (∀ j : Nat, j ≠ i → t.dline j = s.dline j) ∧
          (∀ k < e.2.1, lineByte (t.dline i).data (s.byteAddr pa k % 32) = byte k) ∧
          (∀ o < 32, (∀ k < e.2.1, o ≠ s.byteAddr pa k % 32) →
            lineByte (t.dline i).data o = s.byteAt (pa.toNat / 32 * 32 + o)) ∧
          (attr = 3 → t.mem = s.settledMem ∧ s.wroteBack t i (s.modified i) false) ∧
          (attr = 1 → (∀ k < e.2.1, t.byteAt (s.byteAddr pa k) = byte k) ∧
            ∀ a, (∀ k < e.2.1, a ≠ s.byteAddr pa k) → t.byteAt a =
              if s.modified i ∧ a / 32 = (s.lineAddr (s.dline i).tag i).toNat / 32 then
                lineByte (s.dline i).data (a % 32)
              else s.byteAt a))

/-- The unaligned loads from memory, uncached: the left forms put the bytes from the address to the end of its unit
at the most significant end of the register's word or doubleword, the right forms at the least significant end; the
other bytes are the register's own. A word is sign-extended (40_loads_stores R325 to R327, R330, R331). -/
def Obligations.UnalignedLoads : Prop :=
  ∀ (s : State) (base rt : Reg) (offset : BitVec 16) (pa : PAddr) (v : DWord),
    ∀ e ∈ partialLoads base rt offset, (e.2.2 = 8 → s.ops64Enabled = true) →
      let va := s.address base offset
      let count := s.movedBytes e.2.1 e.2.2 va
      s.maps .load va pa 2 → s.plain (partialAddr s.reverseEndian s.cfg.bigEndian e.2.1 pa e.2.2) count →
      (∀ k < count, byteOf v (movedPlace e.2.1 e.2.2 k) = s.byteAt (s.movedAddr e.2.1 pa k)) →
      (∀ k < e.2.2, count ≤ k →
        byteOf v (movedPlace e.2.1 e.2.2 k) = byteOf (s.readGpr rt) (movedPlace e.2.1 e.2.2 k)) →
      (e.2.2 = 4 → fits 32 v.toInt) →
      s.completes e.1 (s.LoadedFromBus · rt v)

/-- An aligned store to memory, uncached or write-through without allocation on a miss: the bytes of the register go
to the address in the processor's byte order, every other byte of memory is as before (40_loads_stores R310, R321 to
R324, 22_caches R250, R253). -/
def Obligations.StoresUncached : Prop :=
  ∀ (s : State) (base rt : Reg) (offset : BitVec 16) (pa : PAddr) (attr : BitVec 3),
    ∀ e ∈ alignedStores base rt offset, (e.2.2 = true → s.ops64Enabled = true) →
      let va := s.address base offset
      s.memoryWf → va.toNat % e.2.1 = 0 → s.maps .store va pa attr →
      attr = 2 ∨ attr = 0 ∧ s.dLookup va pa = none → s.plain (busAddr s.reverseEndian pa e.2.1) e.2.1 →
      s.completes e.1 fun t =>
        s.Stored t e.2.1 (s.byteAddr pa) (storedByte s.bigEndianCPU (s.readGpr rt) e.2.1)

/-- An aligned store that hits the data cache writes its bytes into the line, with their parity. A write-back store
marks the line modified and Dirty Exclusive and leaves memory alone; a write-through one leaves the line's state and
writes memory too. Its read-merge checks the doubleword and the tag: with bad parity there, unless Status.DE is 1, the
store takes the Cache Error exception; that a whole doubleword is checked too is the model's choice, log 20
(22_caches R252, R253, 60_exceptions R714 (b)). -/
def Obligations.StoresHit : Prop :=
  ∀ (s : State) (base rt : Reg) (offset : BitVec 16) (pa : PAddr) (attr : BitVec 3) (i : Nat),
    ∀ e ∈ alignedStores base rt offset, (e.2.2 = true → s.ops64Enabled = true) →
      let va := s.address base offset
      let byte := storedByte s.bigEndianCPU (s.readGpr rt) e.2.1
      let newLine := fun t : State =>
        (t.dline i).tag = (s.dline i).tag ∧ (∀ j : Nat, j ≠ i → t.dline j = s.dline j) ∧
        (∀ k < e.2.1, lineByte (t.dline i).data (s.byteAddr pa k % 32) = byte k ∧
          (stCE (s.statusSeen .forcedParity) = false →
            (t.dline i).par.getLsbD (s.byteAddr pa k % 32) = parity (byte k))) ∧
        (∀ o < 32, (∀ k < e.2.1, o ≠ s.byteAddr pa k % 32) →
          lineByte (t.dline i).data o = lineByte (s.dline i).data o
            ∧ (t.dline i).par.getLsbD o = (s.dline i).par.getLsbD o)
      s.memoryWf → s.hitsLine .store va e.2.1 pa attr i →
      (¬ s.goodAt i pa → stDE (s.statusSeen .parityEnable) = false →
        exec e.1 s = .next (s.raiseCacheError
          { er := true, ed := !(s.dline i).dwordGood (pa.toNat / 8 % 4), et := !(s.dline i).tagGood, ee := false
            va := va, pa := busAddr s.reverseEndian pa e.2.1 })) ∧
      (s.goodAt i pa → attr = 3 → s.completes e.1 fun t =>
        newLine t ∧ (t.dline i).state = 3 ∧ (t.dline i).w = true ∧ (t.dline i).tagGood = true ∧
        s.OnlyDline t i ∧ s.Continued t) ∧
      (s.goodAt i pa → attr = 0 ∨ attr = 1 → s.plain (busAddr s.reverseEndian pa e.2.1) e.2.1 → s.completes e.1 fun t =>
        newLine t ∧ (t.dline i).state = (s.dline i).state ∧ (t.dline i).w = (s.dline i).w ∧
        { s with dcache := t.dcache }.Stored t e.2.1 (s.byteAddr pa) byte)

/-- The unaligned stores to memory, uncached: the left forms store the most significant bytes of the register's word
or doubleword, the right forms the least significant ones, from the address to the end of its unit; every other byte
of memory is as before (40_loads_stores R325, R328, R329, R332, R333). -/
def Obligations.UnalignedStores : Prop :=
  ∀ (s : State) (base rt : Reg) (offset : BitVec 16) (pa : PAddr),
    ∀ e ∈ partialStores base rt offset, (e.2.2 = 8 → s.ops64Enabled = true) →
      let va := s.address base offset
      s.memoryWf → s.maps .store va pa 2 →
      s.plain (partialAddr s.reverseEndian s.cfg.bigEndian e.2.1 pa e.2.2) (s.movedBytes e.2.1 e.2.2 va) →
      s.completes e.1 fun t =>
        s.Stored t (s.movedBytes e.2.1 e.2.2 va) (s.movedAddr e.2.1 pa)
          (fun k => byteOf (s.readGpr rt) (movedPlace e.2.1 e.2.2 k))

/-- A load or store that is not aligned takes the Address Error exception; one that is aligned and has no
translation takes that exception; so does a fetch, at pc, and a CACHE instruction, as a load. The unaligned forms and
CACHE have no alignment. A form for which 64-bit operations or a coprocessor must be enabled does so where they are
(40_loads_stores R312, 20_memory R148 to R150, 21_mmu_tlb R210, 60_exceptions R700). -/
def Obligations.AccessExceptions : Prop :=
  ∀ (s : State) (base rt : Reg) (offset : BitVec 16) (op : BitVec 5),
    let va := s.address base offset
    let wide := s.ops64Enabled = true
    let cop := fun z => s.copUsable z = true
    (∀ e ∈ [(Instr.lb base rt offset, 1, True), (.lbu base rt offset, 1, True), (.lh base rt offset, 2, True),
        (.lhu base rt offset, 2, True), (.lw base rt offset, 4, True), (.lwu base rt offset, 4, wide),
        (.ld base rt offset, 8, wide), (.ll base rt offset, 4, True), (.lld base rt offset, 8, wide),
        (.lwc1 base rt offset, 4, cop 1), (.ldc1 base rt offset, 8, cop 1), (.lwc2 base rt offset, 4, cop 2),
        (.ldc2 base rt offset, 8, cop 2), (.lwl base rt offset, 1, True), (.lwr base rt offset, 1, True),
        (.ldl base rt offset, 1, wide), (.ldr base rt offset, 1, wide), (.cache base op offset, 1, cop 0)], e.2.2 →
      (va.toNat % e.2.1 ≠ 0 → s.traps e.1 (.addressError va false)) ∧
      (∀ x, va.toNat % e.2.1 = 0 → s.translate .load va = .exc x → s.traps e.1 x)) ∧
    (∀ e ∈ [(Instr.sb base rt offset, 1, True), (.sh base rt offset, 2, True), (.sw base rt offset, 4, True),
        (.sd base rt offset, 8, wide), (.sc base rt offset, 4, True), (.scd base rt offset, 8, wide),
        (.swc1 base rt offset, 4, cop 1), (.sdc1 base rt offset, 8, cop 1), (.swc2 base rt offset, 4, cop 2),
        (.sdc2 base rt offset, 8, cop 2), (.swl base rt offset, 1, True), (.swr base rt offset, 1, True),
        (.sdl base rt offset, 1, wide), (.sdr base rt offset, 1, wide)], e.2.2 →
      (va.toNat % e.2.1 ≠ 0 → s.traps e.1 (.addressError va true)) ∧
      (∀ x, va.toNat % e.2.1 = 0 → s.translate .store va = .exc x → s.traps e.1 x)) ∧
    (s.pc.toNat % 4 ≠ 0 → s.runNext exec = .next (s.raise (.addressError s.pc false))) ∧
    (∀ x, s.pc.toNat % 4 = 0 → s.translate .fetch s.pc = .exc x → s.runNext exec = .next (s.raise x))

/-- A load linked that hits the data cache, or reads memory uncached, loads, keeps the physical address and drains the
write buffer; LLbit becomes 1, and is open if the location is uncached. With bad parity a load linked that hits takes
the Cache Error exception. A store conditional with LLbit 0 stores nothing and answers 0. With LLbit 1 it answers 1 and
does what SW or SD does: on a write-back hit it changes the line; and wherever that store completes, whatever the
attribute, hit or miss, it has that store's effect and the write buffer drains. What a store checks is log 20
(40_loads_stores R335 to R342, 20_memory R166, R169, 11_cp0_registers R104). -/
def Obligations.LinkedAccesses : Prop :=
  ∀ (s : State) (base rt : Reg) (offset : BitVec 16) (pa : PAddr) (attr : BitVec 3) (i : Nat),
    let va := s.address base offset
    let linkedTo := fun b : Bool =>
      { s with llbit := b, linkPa := pa, cp0 := { s.cp0 with llAddr := BitVec.ofNat 32 (pa.toNat / 16) } }
    let badParity := fun n : Nat => s.raiseCacheError
      { er := true, ed := !(s.dline i).dwordGood (pa.toNat / 8 % 4), et := !(s.dline i).tagGood, ee := false
        va := va, pa := busAddr s.reverseEndian pa n }
    s.memoryWf → s.quiet →
    ∀ e ∈ [(Instr.ll base rt offset, Instr.sc base rt offset, Instr.sw base rt offset, 4, true),
        (.lld base rt offset, .scd base rt offset, .sd base rt offset, 8, false)],
      let n := e.2.2.2.1
      (n = 8 → s.ops64Enabled = true) →
      (s.hitsLine .load va n pa attr i →
        (s.goodAt i pa → s.completes e.1 fun t =>
          (linkedTo true).LoadedFromBus t rt (extended e.2.2.2.2 n (s.lineNumber i pa n)) ∧ t.wbuf = []) ∧
        (¬ s.goodAt i pa → stDE (s.statusSeen .parityEnable) = false → exec e.1 s = .next (badParity n))) ∧
      (s.uncached .load va n pa → s.completes e.1 fun t => ∃ b,
        (linkedTo b).LoadedFromBus t rt (extended e.2.2.2.2 n (s.memNumber pa n)) ∧ t.wbuf = []) ∧
      (va.toNat % n = 0 → s.maps .store va pa attr → s.llbit = false →
        s.completes e.2.1 fun t => s.LoadedFromBus t rt 0 ∧ t.wbuf = []) ∧
      (s.llbit = true →
        (s.hitsLine .store va n pa 3 i →
          (s.goodAt i pa → s.completes e.2.1 fun t => s.completes e.2.2.1 fun u =>
            { s with dcache := u.dcache }.LoadedFromBus t rt 1 ∧ t.wbuf = []) ∧
          (¬ s.goodAt i pa → stDE (s.statusSeen .parityEnable) = false → exec e.2.1 s = .next (badParity n))) ∧
        ∀ u, exec e.2.2.1 s = .next u → u.exc = false → u.busWait = none → u.quiet → s.completes e.2.1 fun t =>
          { u with pc := s.pc, pending := s.pending, cp0 := { u.cp0 with random := s.cp0.random } }.LoadedFromBus t rt 1
            ∧ t.wbuf = [])


/-! ### System control (11_cp0_registers, 45_cp0_system) -/

/-- With no late write outstanding, every register reads as it is held: the views that the other statements use are
then the registers themselves (70_reset_and_hazards R852 to R860). -/
def Obligations.ReadsWithoutHazard : Prop :=
  ∀ (s : State) (r : Reg) (who : Reader), s.hist = [] →
    s.readGpr r = s.gprHeld r ∧ s.cp0Read r = s.cp0Get r ∧ s.statusSeen who = s.cp0.status ∧
    s.frSeen = s.cp0.status.getLsbD 26 ∧ s.fpr32 r = s.fprWord (s.cp0.status.getLsbD 26) r ∧
    s.fpr64 r = s.fprDword (s.cp0.status.getLsbD 26) r ∧ s.fcrSeen = s.fcr31 ∧ s.condSeen = s.fcr31.getLsbD 23 ∧
    (s.copUsable 0 = true ↔ s.cp0.status.getLsbD 28 = true ∨ modeOf s.cp0.status = some .kernel) ∧
    (s.copUsable 1 = s.cp0.status.getLsbD 29) ∧ (s.copUsable 2 = s.cp0.status.getLsbD 30)

/-- MFC0 copies the low 32 bits of a CP0 register, sign-extended, DMFC0 a whole 64-bit register; each register number
names its register. DMFC0 from a 32-bit register completes too (45_cp0_system R500, R502, 10_state R42,
11_cp0_registers R94, R98). -/
def Obligations.Cp0Read : Prop :=
  ∀ (s : State) (rt : Reg), s.copUsable 0 = true →
    (∀ rd, s.completes (.mfc0 rt rd) (s.WroteLate · rt (BitVec.ofInt 64 ((s.cp0Read rd).toInt.bmod (2 ^ 32))))) ∧
    (s.ops64Enabled = true →
      (∀ rd ∈ ([2, 3, 4, 8, 10, 14, 20, 30] : List Reg),
        s.completes (.dmfc0 rt rd) (s.WroteLate · rt (s.cp0Read rd))) ∧
      ∀ rd, s.completes (.dmfc0 rt rd) fun t => ∃ v, s.WroteLate t rt v) ∧
    (s.hist = [] → ∀ e ∈ ([(0, s.cp0.index.toNat), (1, s.cp0.random.toNat), (2, s.cp0.entryLo0.toNat),
        (3, s.cp0.entryLo1.toNat), (4, s.cp0.context.toNat), (5, s.cp0.pageMask.toNat), (6, s.cp0.wired.toNat),
        (8, s.cp0.badVAddr.toNat), (9, s.cp0.count.toNat), (10, s.cp0.entryHi.toNat), (11, s.cp0.compare.toNat),
        (12, s.cp0.status.toNat), (13, s.cause.toNat), (14, s.cp0.epc.toNat), (15, 0x2100 + s.cfg.pridRev.toNat),
        (16, s.cp0.config.toNat), (17, s.cp0.llAddr.toNat), (20, s.cp0.xContext.toNat), (26, s.cp0.ecc.toNat),
        (27, s.cp0.cacheErr.toNat), (28, s.cp0.tagLo.toNat), (29, s.cp0.tagHi.toNat),
        (30, s.cp0.errorEpc.toNat)] : List (Reg × Nat)), (s.cp0Read e.1).toNat = e.2)

/-- MTC0 and DMTC0 write the writable bits of their register and no others: the table gives for each register the bits
that stay and the bits that are written. A write of Wired sets Random to 47, one of Compare clears the timer
interrupt. DMTC0 to a 32-bit register writes those bits with an open value. The read-only registers and the reserved
numbers change nothing (45_cp0_system R501, R503, 11_cp0_registers R71 to R119). -/
def Obligations.Cp0Write : Prop :=
  ∀ (s : State) (rt : Reg), s.copUsable 0 = true →
    let v := s.readGpr rt
    (∀ e ∈ ([(0, 0, 0x8000003F), (2, 0, 0x3FFFFFFF), (3, 0, 0x3FFFFFFF), (4, 0x7FFFFF, 0xFFFFFFFFFF800000),
        (5, 0, 0x01FFE000), (6, 0, 0x3F), (9, 0, 0xFFFFFFFF), (10, 0, 0xC00000FFFFFFE0FF), (11, 0, 0xFFFFFFFF),
        (12, 0, 0xF657FFFF), (13, 0xFFFFFCFF, 0x300), (14, 0, 0xFFFFFFFFFFFFFFFF), (16, 0xFFFFFFF8, 7),
        (17, 0, 0xFFFFFFFF), (20, 0x1FFFFFFFF, 0xFFFFFFFE00000000), (26, 0, 0xFF), (28, 0, 0xFFFFFFFF),
        (29, 0, 0xFFFFFFFF), (30, 0, 0xFFFFFFFFFFFFFFFF)] : List (Reg × DWord × DWord)),
      let new := (s.cp0Get e.1 &&& e.2.1) ||| (v &&& e.2.2)
      s.completes (.mtc0 rt e.1) (s.WroteCp0 · e.1 new) ∧
      (s.ops64Enabled = true → e.1 ∈ ([2, 3, 4, 10, 14, 20, 30] : List Reg) →
        s.completes (.dmtc0 rt e.1) (s.WroteCp0 · e.1 new)) ∧
      (s.ops64Enabled = true → e.1 ∉ ([2, 3, 4, 10, 14, 20, 30] : List Reg) →
        s.completes (.dmtc0 rt e.1) fun t => ∃ x : DWord,
          s.WroteCp0 t e.1 ((s.cp0Get e.1 &&& e.2.1) ||| (x &&& e.2.2)))) ∧
    (∀ rd ∈ ([1, 7, 8, 15, 18, 19, 21, 22, 23, 24, 25, 27, 31] : List Reg),
      let nothing := fun t : State => s.Continued t ∧ s.OnlySystem t ∧ t.tlb = s.tlb ∧
        t.timerInt = s.timerInt ∧ t.cp0 = { s.cp0 with random := t.cp0.random }
      s.completes (.mtc0 rt rd) nothing ∧ (s.ops64Enabled = true → s.completes (.dmtc0 rt rd) nothing))

/-- TLBWI and TLBWR write the entry that Index or Random names from PageMask, EntryHi and the two EntryLo registers,
VPN2 without the bits under the mask, G only if both are set; TLBR reads an entry back. Nothing else changes. With an
Index above 47 they complete with open values (45_cp0_system R509 to R512, 21_mmu_tlb R201). -/
def Obligations.TlbWriteRead : Prop :=
  ∀ (s : State), s.copUsable 0 = true →
    let pm := s.cp0Read 5
    let hi := s.cp0Read 10
    let lo0 := s.cp0Read 2
    let lo1 := s.cp0Read 3
    let half := fun (h : TlbHalf) (lo : DWord) =>
      h.pfn.toNat = lo.toNat / 64 % 2 ^ 24 ∧ h.c.toNat = lo.toNat / 8 % 8 ∧ h.d = lo.getLsbD 2 ∧ h.v = lo.getLsbD 1
    let loWord := fun (h : TlbHalf) (g : Bool) =>
      h.pfn.toNat * 64 + h.c.toNat * 8 + h.d.toNat * 4 + h.v.toNat * 2 + g.toNat
    let only := fun t : State => s.OnlySystem t ∧ s.Continued t ∧ t.timerInt = s.timerInt
    let wrote := fun (i : Fin 48) (t : State) =>
      only t ∧ t.cp0 = { s.cp0 with random := t.cp0.random } ∧ (∀ j : Fin 48, j ≠ i → t.tlb[j] = s.tlb[j]) ∧
      t.tlb[i].mask.toNat = pm.toNat / 2 ^ 13 % 2 ^ 12 ∧ t.tlb[i].r.toNat = hi.toNat / 2 ^ 62 ∧
      (∀ b < 27, t.tlb[i].vpn2.getLsbD b = (hi.getLsbD (13 + b) && !(decide (b < 12) && pm.getLsbD (13 + b)))) ∧
      t.tlb[i].g = (lo0.getLsbD 0 && lo1.getLsbD 0) ∧ t.tlb[i].asid.toNat = hi.toNat % 256 ∧
      half t.tlb[i].lo0 lo0 ∧ half t.tlb[i].lo1 lo1
    (∀ i : Fin 48, (s.cp0Read 0).toNat % 64 = i.val → s.completes .tlbwi (wrote i)) ∧
    (∀ i : Fin 48, (s.cp0Read 1).toNat % 64 = i.val → s.completes .tlbwr (wrote i)) ∧
    (∀ i : Fin 48, (s.cp0Read 0).toNat % 64 = i.val → s.completes .tlbr fun t =>
      let e := s.tlb[i]
      only t ∧ t.tlb = s.tlb ∧ s.keepsCp0 t [2, 3, 5, 10] ∧
      t.cp0.pageMask.toNat = e.mask.toNat * 2 ^ 13 ∧ t.cp0.entryLo0.toNat = loWord e.lo0 e.g ∧
      t.cp0.entryLo1.toNat = loWord e.lo1 e.g ∧ t.cp0.entryHi.toNat / 2 ^ 62 = e.r.toNat ∧
      t.cp0.entryHi.toNat % 2 ^ 13 = e.asid.toNat ∧ t.cp0.entryHi.toNat / 2 ^ 40 % 2 ^ 22 = 0 ∧
      ∀ b < 27, t.cp0.entryHi.getLsbD (13 + b) = (e.vpn2.getLsbD b && !e.mask.getLsbD b)) ∧
    (47 < (s.cp0Read 0).toNat % 64 → s.completes .tlbwi only ∧
      s.completes .tlbr fun t => only t ∧ t.tlb = s.tlb ∧ s.keepsCp0 t [2, 3, 5, 10]) ∧
    (47 < (s.cp0Read 1).toNat % 64 → s.completes .tlbwr only)

/-- TLBP puts into Index the number of the one entry that matches EntryHi, or 80000000 hex if none does; with several
it completes with an open Index. Nothing else changes (45_cp0_system R508, 21_mmu_tlb R203). -/
def Obligations.TlbProbe : Prop :=
  ∀ (s : State), s.copUsable 0 = true → (∀ i : Fin 48, legalMask s.tlb[i].mask = true) →
    let hi := s.cp0Read 10
    let found := fun i : Fin 48 =>
      s.tlb[i].r.toNat = hi.toNat / 2 ^ 62 ∧ (s.tlb[i].g = true ∨ s.tlb[i].asid.toNat = hi.toNat % 256) ∧
      ∀ b < 27, s.tlb[i].mask.getLsbD b = false → s.tlb[i].vpn2.getLsbD b = hi.getLsbD (13 + b)
    let only := fun t : State => s.OnlySystem t ∧ s.Continued t ∧ t.tlb = s.tlb ∧ s.keepsCp0 t [0]
      ∧ t.timerInt = s.timerInt
    ((∀ i, ¬ found i) → s.completes .tlbp fun t => only t ∧ t.cp0.index = 0x80000000#32) ∧
    (∀ i, found i → (∀ j, found j → j = i) → s.completes .tlbp fun t => only t ∧ t.cp0.index.toNat = i.val) ∧
    s.completes .tlbp only

/-- ERET outside a delay slot goes to ErrorEPC and clears ERL if ERL is 1, else goes to EPC and clears EXL; LLbit
becomes 0. In a delay slot it completes with an open pc. WAIT enters standby if the write buffer is empty
(45_cp0_system R514, R516, 60_exceptions R694). -/
def Obligations.EretAndWait : Prop :=
  ∀ s : State, s.copUsable 0 = true →
    (s.hist = [] → s.pending = none → s.completes .eret fun t =>
      t.pc = (if s.cp0.status.getLsbD 2 then s.cp0.errorEpc else s.cp0.epc) ∧
      (∀ b < 32, t.cp0.status.getLsbD b =
        (s.cp0.status.getLsbD b && decide (b ≠ if s.cp0.status.getLsbD 2 then 2 else 1))) ∧
      t.llbit = false ∧ s.randomSteps t ∧
      t = { s with
        pc := t.pc, llbit := t.llbit, cp0 := { s.cp0 with status := t.cp0.status, random := t.cp0.random } }) ∧
    s.completes .eret (fun t => t.llbit = false ∧ t.pending = none ∧
      t = { s with
        pc := t.pc, gpr := t.gpr, llbit := t.llbit, pending := t.pending, hist := t.hist
        cp0 := { s.cp0 with status := t.cp0.status, random := t.cp0.random } }) ∧
    s.completes .wait fun t => t.standby = s.wbuf.isEmpty ∧ s.Continued t ∧
      t = { s with
        pc := t.pc, pending := t.pending, standby := t.standby, cp0 := { s.cp0 with random := t.cp0.random } }

/-! ### Coprocessors (46_coprocessor, 30_encoding R291) -/

/-- CFC0 and CTC0 take the Reserved Instruction exception where coprocessor 0 is usable: the spec's own decision D23
(R536), the model's choice, log 32. A branch on the condition of
coprocessor 0 or 2 completes one way or the other: the condition has no source. Coprocessor 2 does not exist: where it
is usable, what comes from it is open and what goes to it is lost (46_coprocessor R531 to R548). -/
def Obligations.CoprocessorForms : Prop :=
  ∀ (s : State) (rt rd base : Reg) (offset : BitVec 16) (cofun : BitVec 25) (pa : PAddr),
    let dest := BitVec.ofInt 64 (s.pc.toInt + 4 + 4 * offset.toInt)
    let va := s.address base offset
    (s.copUsable 0 = true →
      s.traps (.cfc0 rt rd) .reservedInstruction ∧ s.traps (.ctc0 rt rd) .reservedInstruction) ∧
    (s.pending = none → ∀ e ∈ [(0, Instr.bc0f offset, Instr.bc0fl offset), (0, .bc0t offset, .bc0tl offset),
        (2, .bc2f offset, .bc2fl offset), (2, .bc2t offset, .bc2tl offset)], s.copUsable e.1 = true →
      s.completes e.2.1 (fun t => s.BranchLinked t 0 0 ∧ (s.slotThen t dest 0 ∨ s.slotThen t (s.pc + 8) 0)) ∧
      s.completes e.2.2 fun t =>
        s.BranchLinked t 0 0 ∧ (s.slotThen t dest 0 ∨ t.pc = s.pc + 8 ∧ t.pending = none)) ∧
    (s.copUsable 2 = true →
      (∀ i ∈ [Instr.cop2 cofun, .mtc2 rt rd, .ctc2 rt rd], s.completes i (s.Wrote · 0 0)) ∧
      (∀ i ∈ [Instr.mfc2 rt rd, .cfc2 rt rd],
        s.completes i fun t => ∃ v : DWord, s.WroteLate t rt v ∧ fits 32 v.toInt) ∧
      (s.ops64Enabled = true → s.completes (.dmtc2 rt rd) (s.Wrote · 0 0) ∧
        s.completes (.dmfc2 rt rd) fun t => ∃ v, s.WroteLate t rt v) ∧
      (∀ e ∈ [(Instr.lwc2 base rt offset, 4), (.ldc2 base rt offset, 8)], s.uncached .load va e.2 pa →
        s.completes e.1 (s.LoadedFromBus · 0 0)) ∧
      (∀ e ∈ [(Instr.swc2 base rt offset, 4), (.sdc2 base rt offset, 8)],
        s.memoryWf → s.uncached .store va e.2 pa →
        s.completes e.1 fun t => ∃ v, s.Stored t e.2 (s.byteAddr pa) (storedByte s.bigEndianCPU v e.2)))

/-- An instruction of a coprocessor that is not usable takes the Coprocessor Unusable exception, whatever else it
would do: that the usability test comes first is the spec's own decision D24 (R529, R720), the model's choice, log 32.
A 64-bit operation in User or Supervisor mode without 64-bit addressing takes the Reserved Instruction exception. That
a floating-point form of format L which the instruction does not have takes it too, before the format is found
invalid, is the spec's own decision D31 (R630 step 2, R697 item 2), and for MOV, whose pseudocode in R624 has no such
test, the model's choice, log 26 (46_coprocessor R529, 30_encoding R291, 49_fpu_arith_convert_compare R630,
60_exceptions R697, R718, R720, R753). -/
def Obligations.InstructionsDisabled : Prop :=
  ∀ (s : State) (rs rt rd base ft fs fd : Reg) (op fmt sa : BitVec 5) (cond : BitVec 4) (o : BitVec 16)
    (cofun : BitVec 25),
    (s.copUsable 0 = false → ∀ i ∈ [Instr.mfc0 rt rd, .dmfc0 rt rd, .mtc0 rt rd, .dmtc0 rt rd, .cfc0 rt rd,
        .ctc0 rt rd, .bc0f o, .bc0t o, .bc0fl o, .bc0tl o, .tlbr, .tlbwi, .tlbwr, .tlbp, .eret, .wait,
        .cache base op o],
      s.traps i (.coprocessorUnusable 0)) ∧
    (s.copUsable 1 = false → ∀ i ∈ [Instr.lwc1 base ft o, .ldc1 base ft o, .swc1 base ft o, .sdc1 base ft o,
        .mfc1 rt fs, .dmfc1 rt fs, .cfc1 rt fs, .mtc1 rt fs, .dmtc1 rt fs, .ctc1 rt fs, .bc1f o, .bc1t o, .bc1fl o,
        .bc1tl o, .addFmt fmt ft fs fd, .subFmt fmt ft fs fd, .mulFmt fmt ft fs fd, .divFmt fmt ft fs fd,
        .sqrtFmt fmt fs fd, .absFmt fmt fs fd, .movFmt fmt fs fd, .negFmt fmt fs fd, .roundLFmt fmt fs fd,
        .truncLFmt fmt fs fd, .ceilLFmt fmt fs fd, .floorLFmt fmt fs fd, .roundWFmt fmt fs fd, .truncWFmt fmt fs fd,
        .ceilWFmt fmt fs fd, .floorWFmt fmt fs fd, .cvtSFmt fmt fs fd, .cvtDFmt fmt fs fd, .cvtWFmt fmt fs fd,
        .cvtLFmt fmt fs fd, .cCondFmt fmt ft fs cond],
      s.traps i (.coprocessorUnusable 1)) ∧
    (s.copUsable 2 = false → ∀ i ∈ [Instr.lwc2 base rt o, .ldc2 base rt o, .swc2 base rt o, .sdc2 base rt o,
        .mfc2 rt rd, .dmfc2 rt rd, .cfc2 rt rd, .mtc2 rt rd, .dmtc2 rt rd, .ctc2 rt rd, .bc2f o, .bc2t o, .bc2fl o,
        .bc2tl o, .cop2 cofun],
      s.traps i (.coprocessorUnusable 2)) ∧
    (s.ops64Enabled = false →
      (∀ i ∈ [Instr.dadd rs rt rd, .daddu rs rt rd, .daddi rs rt o, .daddiu rs rt o, .dsub rs rt rd, .dsubu rs rt rd,
          .dsll rt rd sa, .dsrl rt rd sa, .dsra rt rd sa, .dsll32 rt rd sa, .dsrl32 rt rd sa, .dsra32 rt rd sa,
          .dsllv rs rt rd, .dsrlv rs rt rd, .dsrav rs rt rd, .dmult rs rt, .dmultu rs rt, .ddiv rs rt, .ddivu rs rt,
          .ld rs rt o, .sd rs rt o, .ldl rs rt o, .ldr rs rt o, .sdl rs rt o, .sdr rs rt o, .lld rs rt o, .scd rs rt o,
          .lwu rs rt o],
        s.traps i .reservedInstruction) ∧
      (s.copUsable 0 = true → ∀ i ∈ [Instr.dmfc0 rt rd, .dmtc0 rt rd], s.traps i .reservedInstruction) ∧
      (s.copUsable 1 = true → ∀ i ∈ [Instr.dmfc1 rt fs, .dmtc1 rt fs, .roundLFmt fmt fs fd, .truncLFmt fmt fs fd,
          .ceilLFmt fmt fs fd, .floorLFmt fmt fs fd, .cvtLFmt fmt fs fd, .cvtSFmt 21 fs fd, .cvtDFmt 21 fs fd,
          .addFmt 21 ft fs fd, .subFmt 21 ft fs fd, .mulFmt 21 ft fs fd, .divFmt 21 ft fs fd, .sqrtFmt 21 fs fd,
          .absFmt 21 fs fd, .movFmt 21 fs fd, .negFmt 21 fs fd, .roundWFmt 21 fs fd, .truncWFmt 21 fs fd,
          .ceilWFmt 21 fs fd, .floorWFmt 21 fs fd, .cvtWFmt 21 fs fd, .cCondFmt 21 ft fs cond],
        s.traps i .reservedInstruction) ∧
      (s.copUsable 2 = true → ∀ i ∈ [Instr.dmfc2 rt rd, .dmtc2 rt rd], s.traps i .reservedInstruction))

/-! ### The CACHE instruction (22_caches R240 to R262) -/

/-- CACHE on the data cache: it drains the write buffer; the Index operations work on the line that va[13] and
va[12:5] name, the Hit operations on the line that holds the address, if any, and record in Status.CH whether there
was one; a modified line is written back where the operation says so, to the address its tag and set give. Index Load
Tag puts the line's tag, state, FIFO bit and tag parity into TagLo and the parity of a doubleword into ECC; no other
operation writes TagLo or ECC, and none but the Hit operations writes Status. LLbit is cleared when the linked line is
invalidated or replaced (22_caches R242, R244 to R248, R255, R256, R258, R260, R262, 20_memory R166). -/
def Obligations.CacheDataOps : Prop :=
  ∀ (s : State) (base : Reg) (offset : BitVec 16) (pa : PAddr) (attr : BitVec 3) (i : Nat),
    let va := s.address base offset
    let set := va.toNat / 32 % 256
    let l := s.dline i
    let f := s.cfg.tagLo
    let flushed := fun t : State => t.mem = s.settledMem ∧ s.onlyCaches t ∧ s.Continued t
    let quietly := fun t : State => flushed t ∧ t.cp0.status = s.cp0.status
    let kept := fun t : State => t.wbuf = [] ∧ t.llbit = s.llbit ∧ s.keepsTags t
    let unlinked := fun (t : State) (j : Nat) => t.llbit = (s.llbit && !s.linked j) ∧ s.keepsTags t
    let left := fun t : State => s.onlyD t i ∧ t.dline i = l.retag l.tag 0 ∧ unlinked t i
    s.copUsable 0 = true → s.memoryWf → s.maps .load va pa attr → attr ≠ 2 → s.quiet → f.ok = true →
    stCE (s.statusSeen .forcedParity) = false → l.errs = 0 →
    (i = set + (if va.getLsbD 13 then 256 else 0) →
      s.completes (.cache base 0x01 offset) (fun t => quietly t ∧ left t ∧ s.wroteBack t i (s.modified i) false) ∧
      s.completes (.cache base 0x05 offset) (fun t => quietly t ∧ t.wbuf = [] ∧ t.llbit = s.llbit ∧
        t.dcache = s.dcache ∧ t.icache = s.icache ∧ t.cp0.tagLo.toNat / 256 = l.tag.toNat ∧
        t.cp0.tagLo.toNat / 2 ^ f.pState.toNat % 4 = l.state.toNat ∧
        t.cp0.tagLo.getLsbD f.fifo.toNat = l.fifo ∧ t.cp0.tagLo.getLsbD f.par.toNat = l.tagPar ∧
        t.cp0.ecc.toNat < 256 ∧ ∀ j < 8, t.cp0.ecc.getLsbD j =
          l.par.getLsbD (va.toNat / 8 % 4 * 8 + if s.cfg.bigEndian then 7 - j else j)) ∧
      s.completes (.cache base 0x09 offset) (fun t => quietly t ∧ t.wbuf = [] ∧ s.onlyD t i ∧ unlinked t i ∧
        (t.dline i).tag.toNat = s.cp0.tagLo.toNat / 256 ∧
        (t.dline i).state.toNat = s.cp0.tagLo.toNat / 2 ^ f.pState.toNat % 4 ∧ (t.dline i).data = l.data ∧
        (t.dline i).par = l.par ∧ (t.dline i).tagGood = (l.wPar == l.w || (t.dline i).state != 0))) ∧
    (s.dLookup va pa = some i →
      s.completes (.cache base 0x0D offset) (fun t => quietly t ∧ kept t ∧ s.onlyD t i ∧
        t.dline i = l.retag (tagOf pa) 3) ∧
      s.completes (.cache base 0x11 offset) (fun t => flushed t ∧ t.wbuf = [] ∧ left t ∧ s.ranCH t true) ∧
      s.completes (.cache base 0x15 offset) (fun t => flushed t ∧ left t ∧ s.ranCH t true ∧
        s.wroteBack t i (s.modified i) false) ∧
      s.completes (.cache base 0x19 offset) (fun t => flushed t ∧ s.onlyD t i ∧ t.dline i = (if l.w then l.setW false else l) ∧
        t.llbit = s.llbit ∧ s.keepsTags t ∧ s.wroteBack t i l.w true ∧ s.ranCH t true)) ∧
    (s.dLookup va pa = none → ∀ op ∈ ([0x11, 0x15, 0x19] : List (BitVec 5)),
      s.completes (.cache base op offset) fun t => flushed t ∧ kept t ∧ t.dcache = s.dcache ∧
        t.icache = s.icache ∧ s.ranCH t false) ∧
    (s.dLookup va pa = none → (∀ j, (s.dline j).errs = 0) →
      s.completes (.cache base 0x0D offset) fun t => quietly t ∧
        ∃ j, (j = set ∨ j = 256 + set) ∧ s.onlyD t j ∧ t.dline j = ((s.dline j).retag (tagOf pa) 3).setW false ∧
          s.wroteBack t j (s.modified j) false ∧ unlinked t j)

/-- CACHE on the instruction cache, and the operations that are undefined: an operation code that names none, or an
uncached address, is refused. Index Load Tag alone writes TagLo and ECC, the Hit operations alone write Status; LLbit
stays (22_caches R242, R243, R245, R246, R249, R255, R257, R258, R262). -/
def Obligations.CacheInstrOps : Prop :=
  ∀ (s : State) (base : Reg) (offset : BitVec 16) (pa : PAddr) (attr : BitVec 3) (i : Nat),
    let va := s.address base offset
    let set := va.toNat / 32 % 256
    let l := s.iline i
    let f := s.cfg.tagLo
    let start : PAddr := BitVec.ofNat 36 (pa.toNat / 32 * 32)
    let flushed := fun t : State =>
      t.mem = s.settledMem ∧ s.onlyCaches t ∧ s.Continued t ∧ t.llbit = s.llbit ∧ t.dcache = s.dcache
    let quietly := fun t : State => flushed t ∧ t.wbuf = [] ∧ t.cp0.status = s.cp0.status
    s.copUsable 0 = true → s.memoryWf → s.maps .load va pa attr → s.quiet → f.ok = true →
    stCE (s.statusSeen .forcedParity) = false →
    (attr = 2 → ∀ op, exec (.cache base op offset) s = .refused .cacheUncached) ∧
    (attr ≠ 2 →
      (∀ op ∈ ([2, 3, 6, 7, 10, 11, 12, 14, 15, 18, 19, 22, 23, 26, 27, 28, 29, 30, 31] : List (BitVec 5)),
        exec (.cache base op offset) s = .refused .cacheOpUndefined) ∧
      (i = set + (if va.getLsbD 13 then 256 else 0) →
        s.completes (.cache base 0x00 offset) (fun t => quietly t ∧ s.keepsTags t ∧ s.onlyI t i ∧
          t.iline i = l.retag (tagOf pa) false) ∧
        s.completes (.cache base 0x04 offset) (fun t => quietly t ∧ t.icache = s.icache ∧
          t.cp0.tagLo.toNat / 256 = l.tag.toNat ∧
          (t.cp0.tagLo.toNat / 2 ^ f.pState.toNat % 4 = 0 ↔ l.valid = false) ∧
          t.cp0.tagLo.getLsbD f.fifo.toNat = l.fifo ∧ t.cp0.tagLo.getLsbD f.par.toNat = l.tagPar) ∧
        s.completes (.cache base 0x08 offset) (fun t => quietly t ∧ s.keepsTags t ∧ s.onlyI t i ∧
          (t.iline i).tag.toNat = s.cp0.tagLo.toNat / 256 ∧ (t.iline i).data = l.data ∧
          ((t.iline i).valid = true ↔ s.cp0.tagLo.toNat / 2 ^ f.pState.toNat % 4 ≠ 0)) ∧
        (s.cfg.kindAt start 32 = none → s.completes (.cache base 0x14 offset) fun t =>
          quietly t ∧ s.keepsTags t ∧ s.onlyI t i ∧ (t.iline i).valid = true ∧
          (t.iline i).tag.toNat = pa.toNat / 4096 ∧ (∀ k < 8, (t.iline i).wordGood k = true) ∧
          ∀ k < 32, lineByte (t.iline i).data k = s.byteAt (pa.toNat / 32 * 32 + k))) ∧
      (s.iHit va pa = some i →
        s.completes (.cache base 0x10 offset) (fun t => flushed t ∧ t.wbuf = [] ∧ s.keepsTags t ∧ s.onlyI t i ∧
          t.iline i = l.retag l.tag false ∧ s.ranCH t true) ∧
        (l.errs = 0 → s.completes (.cache base 0x18 offset) fun t => flushed t ∧ s.keepsTags t ∧
          t.icache = s.icache ∧ s.ranCH t true ∧
          t.wbuf = [.line (s.lineAddr l.tag i) l.data (byteParities l.data) true (true, i)])) ∧
      (s.iHit va pa = none → ∀ op ∈ ([0x10, 0x18] : List (BitVec 5)),
        s.completes (.cache base op offset) fun t => flushed t ∧ t.wbuf = [] ∧ s.keepsTags t ∧
          t.icache = s.icache ∧ s.ranCH t false))

/-! ### Floating point (47_fpu_state_formats, 48_fpu_moves, 49_fpu_arith_convert_compare) -/

/-- LWC1 and LDC1 load a floating-point register from memory, SWC1 and SDC1 store one; with FR = 0 a word is one half
of a pair and the other half stays (48_fpu_moves R610 to R613, 47_fpu_state_formats R560, R561). -/
def Obligations.FpLoadStore : Prop :=
  ∀ (s : State) (base ft : Reg) (offset : BitVec 16) (pa : PAddr),
    let va := s.address base offset
    let fr := s.frSeen
    let loaded := fun t : State => (∀ a, t.byteAt a = s.byteAt a) ∧ s.Continued t ∧
      t = { s with
        fgr := t.fgr, pc := t.pc, pending := t.pending, mem := t.mem, wbuf := t.wbuf, bus := t.bus
        cp0 := { s.cp0 with random := t.cp0.random } }
    s.copUsable 1 = true →
    (s.uncached .load va 4 pa → s.completes (.lwc1 base ft offset) fun t =>
      loaded t ∧ (t.fprWord fr ft).toNat = s.memNumber pa 4 ∧ s.keepsFprs32 t fr ft) ∧
    (s.uncached .load va 8 pa → s.completes (.ldc1 base ft offset) fun t =>
      loaded t ∧ (t.fprDword fr ft).toNat = s.memNumber pa 8 ∧ s.keepsFprs64 t fr ft) ∧
    (s.memoryWf → s.uncached .store va 4 pa → s.completes (.swc1 base ft offset) fun t =>
      s.Stored t 4 (s.byteAddr pa) (storedByte s.bigEndianCPU (BitVec.ofNat 64 (s.fpr32 ft).toNat) 4)) ∧
    (s.memoryWf → s.uncached .store va 8 pa → s.completes (.sdc1 base ft offset) fun t =>
      s.Stored t 8 (s.byteAddr pa) (storedByte s.bigEndianCPU (s.fpr64 ft) 8))

/-- MFC1 and MTC1 move words, sign-extended toward the general register, DMFC1 and DMTC1 doublewords; CFC1 reads FCR0
and FCR31; CTC1 writes FCR31, and takes the Floating-Point exception if that sets Cause E or a Cause bit whose Enable
is set; the others leave FCR31 alone. That DMFC1 and DMTC1 of an odd register with FR = 0, which R616 and R617 call not
defined, ignore bit 0 of its number is the model's choice (FR0_ODD_DOUBLE, D34), as is what CFC1 and CTC1 of another
control register do (D35), log 26 (48_fpu_moves R614 to R619, R625, 47_fpu_state_formats R566, R570, R573). -/
def Obligations.FpMoves : Prop :=
  ∀ (s : State) (rt fs : Reg), s.copUsable 1 = true →
    let fr := s.frSeen
    let v := s.readGpr rt
    let new : Word := BitVec.ofNat 32 (v.toNat &&& 0x0183FFFF)
    let trap := v.getLsbD 17 = true ∨ ∃ k < 5, v.getLsbD (12 + k) = true ∧ v.getLsbD (7 + k) = true
    s.completes (.mfc1 rt fs) (s.WroteLate · rt (BitVec.ofInt 64 (s.fpr32 fs).toInt)) ∧
    s.completes (.mtc1 rt fs) (s.WroteFpr32 · fr fs (BitVec.ofNat 32 v.toNat)) ∧
    (s.ops64Enabled = true → s.completes (.dmfc1 rt fs) (s.WroteLate · rt (s.fpr64 fs)) ∧
      s.completes (.dmtc1 rt fs) (s.WroteFpr64 · fr fs v)) ∧
    s.completes (.cfc1 rt 0) (s.WroteLate · rt (BitVec.ofNat 64 (0x2100 + s.cfg.fcr0Rev.toNat))) ∧
    s.completes (.cfc1 rt 31) (s.WroteLate · rt (BitVec.ofInt 64 s.fcrSeen.toInt)) ∧
    s.completes (.cfc1 rt fs) (fun t => ∃ x, s.WroteLate t rt x) ∧
    (¬ trap → s.completes (.ctc1 rt 31) fun t =>
      t.fcr31 = new ∧ t.fgr = s.fgr ∧ s.OnlyFpu t ∧ s.Continued t) ∧
    (trap → exec (.ctc1 rt 31) s = .next ({ s with fcr31 := new }.raise .floatingPoint)) ∧
    (fs ≠ 31 → s.completes (.ctc1 rt fs) (s.Wrote · 0 0))

/-- MOV copies any pattern; ABS clears and NEG inverts the sign bit of an operand that is no NaN and not denormalized.
No condition is signalled; that MOV writes the Cause field, with zero, is the spec's own decision D33 (R572, R624), the
model's choice, log 26 (48_fpu_moves R624, 49_fpu_arith_convert_compare R645, R646). -/
def Obligations.FpSignMoves : Prop :=
  ∀ (s : State) (fs fd : Reg), s.copUsable 1 = true →
    ∀ e ∈ fpFormats, s.holds e.2 fs → s.holds e.2 fd →
      let a := s.fpOperand e.2 fs
      let top := 2 ^ (e.2.width - 1)
      s.completes (.movFmt e.1 fs fd) (s.WroteFp · e.2.wide fd a 0) ∧
      ((e.2.value a).isNan = false → e.2.denormal a = false →
        s.completes (.absFmt e.1 fs fd) (s.WroteFp · e.2.wide fd (a % top) 0) ∧
        s.completes (.negFmt e.1 fs fd) (s.WroteFp · e.2.wide fd ((a + top) % (2 * top)) 0))

/-- With operands that are neither denormalized nor quiet NaNs, no Enable set and FS = 1, the arithmetic instructions
complete: a result is stored and the conditions recorded, none of them Unimplemented Operation
(49_fpu_arith_convert_compare R630, R640 to R644, 47_fpu_state_formats R575 to R579). -/
def Obligations.FpArithmeticCompletes : Prop :=
  ∀ (s : State) (fs ft fd : Reg), s.copUsable 1 = true → fcrEnables s.fcrSeen = 0 → fcrFS s.fcrSeen = true →
    ∀ e ∈ fpFormats, s.holds e.2 fs → s.holds e.2 ft → s.holds e.2 fd →
      e.2.screened (s.fpOperand e.2 fs) = false → e.2.screened (s.fpOperand e.2 ft) = false →
      ∀ i ∈ [Instr.addFmt e.1 ft fs fd, .subFmt e.1 ft fs fd, .mulFmt e.1 ft fs fd, .divFmt e.1 ft fs fd,
          .sqrtFmt e.1 fs fd],
        s.completes i fun t => ∃ bits cause, s.WroteFp t e.2.wide fd bits cause ∧ cause.getLsbD 5 = false

/-- Where the exact sum, difference, product, quotient or square root of two numbers is itself a number of the format,
not zero and not denormalized, that number is the result, with no condition, in every rounding mode
(49_fpu_arith_convert_compare R640 to R644, 47_fpu_state_formats R571). -/
def Obligations.FpExactResults : Prop :=
  ∀ (s : State) (fs ft fd : Reg) (p : Nat), s.copUsable 1 = true →
    ∀ e ∈ fpFormats, s.holds e.2 fs → s.holds e.2 ft → s.holds e.2 fd →
      let a := s.fpOperand e.2 fs
      let b := s.fpOperand e.2 ft
      let x := (e.2.value a).rat
      let y := (e.2.value b).rat
      let r := (e.2.value p).rat
      e.2.plainNumber a → e.2.plainNumber p → r ≠ 0 →
      (e.2.plainNumber b →
        (r = x + y → s.completes (.addFmt e.1 ft fs fd) (s.WroteFp · e.2.wide fd p 0)) ∧
        (r = x - y → s.completes (.subFmt e.1 ft fs fd) (s.WroteFp · e.2.wide fd p 0)) ∧
        (r = x * y → s.completes (.mulFmt e.1 ft fs fd) (s.WroteFp · e.2.wide fd p 0)) ∧
        (y ≠ 0 → r * y = x → s.completes (.divFmt e.1 ft fs fd) (s.WroteFp · e.2.wide fd p 0))) ∧
      (0 < r → r * r = x → s.completes (.sqrtFmt e.1 fs fd) (s.WroteFp · e.2.wide fd p 0))

/-- Rounding drops the low bits of a significand by the rounding mode: to the nearest, a tie to even; toward zero; up;
down; and says whether anything was lost (47_fpu_state_formats R571). -/
def Obligations.FpRounding : Prop :=
  ∀ (rm : BitVec 2) (sign : Bool) (m shift : Nat),
    let q := (roundShift rm sign m shift false).1
    let u := 2 ^ shift
    ((roundShift rm sign m shift false).2 = true ↔ m % u ≠ 0) ∧
    (rm = 0 → 2 * (q * u) ≤ 2 * m + u ∧ 2 * m ≤ 2 * (q * u) + u ∧
      (2 * (q * u) = 2 * m + u ∨ 2 * m = 2 * (q * u) + u → q % 2 = 0)) ∧
    (rm = 1 ∨ rm = 2 ∧ sign = true ∨ rm = 3 ∧ sign = false → q * u ≤ m ∧ m < (q + 1) * u) ∧
    (rm = 2 ∧ sign = false ∨ rm = 3 ∧ sign = true → m ≤ q * u ∧ q * u < m + u)

/-- A result too large for its format overflows, inexact: infinity or the largest number by the rounding mode and
sign. One below half the smallest normalized number underflows: with Enable U set the trap's conditions; else, if FS
is 1, zero or the smallest normalized number by the mode, inexact; else Unimplemented Operation. That a flushed result
is the neighbour in the rounding direction and sets Underflow with Inexact is the spec's own decision D32, the model's
choice, log 27; results between half and the whole smallest normalized number are left out (47_fpu_state_formats R578,
R579). -/
def Obligations.FpOverflowUnderflow : Prop :=
  ∀ (c : FpMode) (sign : Bool) (m : Nat) (x : Int), 0 < m →
    ∀ f ∈ [fmtS, fmtD],
      let away := c.rm = 2 ∧ sign = false ∨ c.rm = 3 ∧ sign = true
      let r := f.round c sign m x false
      ((m : ℚ) * (2 : ℚ) ^ x ≥ (2 : ℚ) ^ (f.emax + 1) →
        r.1 = fpO ||| fpI ∧
        r.2.toNat = (if sign then 2 ^ (f.width - 1) else 0) + (2 ^ f.ebits - 1) * 2 ^ f.fbits
          - (if c.rm = 0 ∨ away then 0 else 1)) ∧
      ((m : ℚ) * (2 : ℚ) ^ x < (2 : ℚ) ^ (f.emin - 1) →
        (c.trapU = true → r.1.getLsbD 1 = true ∧ r.1.getLsbD 5 = false) ∧
        (c.trapU = false → c.flush = true → r.1 = fpU ||| fpI ∧
          r.2.toNat = (if sign then 2 ^ (f.width - 1) else 0) + (if away then 2 ^ f.fbits else 0)) ∧
        (c.trapU = false → c.flush = false → r.1 = fpE))

/-- The conversions to integers give the value rounded by their mode (CVT by FCR31's), if it fits in the word or
doubleword, and signal Inexact if it differs; with Inexact not enabled they complete
(49_fpu_arith_convert_compare R649 to R657, R662, R663). -/
def Obligations.FpConvertToFixed : Prop :=
  ∀ (s : State) (fs fd : Reg) (z : Int), s.copUsable 1 = true → (fcrEnables s.fcrSeen).getLsbD 0 = false →
    ∀ e ∈ fpFormats, s.holds e.2 fs →
      let a := s.fpOperand e.2 fs
      let x := (e.2.value a).rat
      let cause : BitVec 6 := if (z : ℚ) = x then 0 else 1
      e.2.plainNumber a →
      (fits 32 z → ∀ w ∈ [(Instr.roundWFmt e.1 fs fd, 0#2), (.truncWFmt e.1 fs fd, 1), (.ceilWFmt e.1 fs fd, 2),
          (.floorWFmt e.1 fs fd, 3), (.cvtWFmt e.1 fs fd, fcrRM s.fcrSeen)], roundsTo w.2 x z →
        s.completes w.1 (s.WroteFp · false fd (BitVec.ofInt 32 z).toNat cause)) ∧
      (fits 64 z → s.holds fmtD fd → s.ops64Enabled = true →
        ∀ w ∈ [(Instr.roundLFmt e.1 fs fd, 0#2), (.truncLFmt e.1 fs fd, 1), (.ceilLFmt e.1 fs fd, 2),
          (.floorLFmt e.1 fs fd, 3), (.cvtLFmt e.1 fs fd, fcrRM s.fcrSeen)], roundsTo w.2 x z →
        s.completes w.1 (s.WroteFp · true fd (BitVec.ofInt 64 z).toNat cause))

/-- CVT.S and CVT.D of an integer or of a number of the other format give the pattern of the same value, with no
condition, where the destination format has one that is not zero and not denormalized
(49_fpu_arith_convert_compare R660, R661). -/
def Obligations.FpConvertToFloat : Prop :=
  ∀ (s : State) (fs fd : Reg) (p : Nat), s.copUsable 1 = true →
    ∀ e ∈ [(Instr.cvtSFmt, fmtS, (17 : BitVec 5), fmtD), (.cvtDFmt, fmtD, 16, fmtS)],
      let g := e.2.1
      let src := e.2.2.2
      let r := (g.value p).rat
      s.holds g fd → g.plainNumber p → r ≠ 0 →
      (s.holds src fs → src.plainNumber (s.fpOperand src fs) → (src.value (s.fpOperand src fs)).rat = r →
        s.completes (e.1 e.2.2.1 fs fd) (s.WroteFp · g.wide fd p 0)) ∧
      (((s.fpr32 fs).toInt : ℚ) = r → s.completes (e.1 20 fs fd) (s.WroteFp · g.wide fd p 0)) ∧
      (s.ops64Enabled = true → s.holds fmtD fs → ((s.fpr64 fs).toInt : ℚ) = r →
        s.completes (e.1 21 fs fd) (s.WroteFp · g.wide fd p 0))

/-- C.cond sets the condition bit if the predicate holds: less for cond bit 2, equal for bit 1, unordered for bit 0,
and is Invalid on a NaN if cond bit 3 is set. Numbers compare by their values, both zeros equal
(49_fpu_arith_convert_compare R670). -/
def Obligations.FpCompare : Prop :=
  ∀ (s : State) (fs ft : Reg) (cond : BitVec 4), s.copUsable 1 = true →
    ∀ e ∈ fpFormats, s.holds e.2 fs → s.holds e.2 ft →
      let a := e.2.value (s.fpOperand e.2 fs)
      let b := e.2.value (s.fpOperand e.2 ft)
      let set := fun (t : State) (c : Bool) (cause : BitVec 6) =>
        t.fcr31.getLsbD 23 = c ∧ fcrCause t.fcr31 = cause ∧
        fcrFlags t.fcr31 = fcrFlags s.fcr31 ||| cause.setWidth 5 ∧ t.fgr = s.fgr ∧ s.OnlyFpu t ∧ s.Continued t ∧
        ∀ k < 32, k < 2 ∨ 6 < k ∧ k < 12 ∨ 17 < k ∧ k ≠ 23 → t.fcr31.getLsbD k = s.fcr31.getLsbD k
      (a.isNan = false → b.isNan = false → s.completes (.cCondFmt e.1 ft fs cond) fun t => ∃ c, set t c 0 ∧
        (c = true ↔ cond.getLsbD 2 = true ∧ a.less b ∨ cond.getLsbD 1 = true ∧ a.same b)) ∧
      (a.isNan = true ∨ b.isNan = true →
        (cond.getLsbD 3 = false → s.completes (.cCondFmt e.1 ft fs cond) fun t => set t (cond.getLsbD 0) 0) ∧
        (cond.getLsbD 3 = true → (fcrEnables s.fcrSeen).getLsbD 4 = false →
          s.completes (.cCondFmt e.1 ft fs cond) fun t => set t (cond.getLsbD 0) fpV) ∧
        (cond.getLsbD 3 = true → (fcrEnables s.fcrSeen).getLsbD 4 = true →
          s.fpTrapped (.cCondFmt e.1 ft fs cond) fpV))

/-- A denormalized or quiet NaN operand of an arithmetic instruction or of a conversion between S and D, and a format
an instruction does not have, raise Unimplemented Operation; a signaling NaN is Invalid, and without the trap the
result is the default quiet NaN of the destination. A conversion to a word or doubleword whose operand is
denormalized, infinite or a NaN, or does not fit, is Unimplemented Operation; where the parameter says Invalid, all
but the denormalized one are Invalid, and without the trap the result is the largest integer (47_fpu_state_formats
R567, R576, R580, R582, 49_fpu_arith_convert_compare R630, R649, R660, R661). -/
def Obligations.FpSpecialOperands : Prop :=
  ∀ (s : State) (fs ft fd : Reg) (cond : BitVec 4), s.copUsable 1 = true →
    let invalid := fun (i : Instr) (wide : Bool) (result : Nat) =>
      if (fcrEnables s.fcrSeen).getLsbD 4 = true then s.fpTrapped i fpV else s.completes i (s.WroteFp · wide fd result fpV)
    (∀ e ∈ fpFormats, s.holds e.2 fs → s.holds e.2 ft → s.holds e.2 fd →
      let a := s.fpOperand e.2 fs
      let b := s.fpOperand e.2 ft
      (∀ i ∈ [Instr.addFmt e.1 ft fs fd, .subFmt e.1 ft fs fd, .mulFmt e.1 ft fs fd, .divFmt e.1 ft fs fd],
        (e.2.screened a = true ∨ e.2.screened b = true → s.fpTrapped i fpE) ∧
        (e.2.screened a = false → e.2.screened b = false →
          e.2.value a = .nan true ∨ e.2.value b = .nan true → invalid i e.2.wide (s.qnan e.2).toNat)) ∧
      (∀ i ∈ [Instr.sqrtFmt e.1 fs fd, .absFmt e.1 fs fd, .negFmt e.1 fs fd],
        (e.2.screened a = true → s.fpTrapped i fpE) ∧
        (e.2.value a = .nan true → invalid i e.2.wide (s.qnan e.2).toNat))) ∧
    (∀ e ∈ [(Instr.cvtSFmt, fmtS, (17 : BitVec 5), fmtD), (.cvtDFmt, fmtD, 16, fmtS)],
      let i := e.1 e.2.2.1 fs fd
      let g := e.2.1
      let a := s.fpOperand e.2.2.2 fs
      s.holds e.2.2.2 fs → s.holds g fd →
      (e.2.2.2.screened a = true → s.fpTrapped i fpE) ∧
      (e.2.2.2.value a = .nan true → invalid i g.wide (s.qnan g).toNat)) ∧
    (∀ e ∈ fpFormats, s.holds e.2 fs →
      let a := s.fpOperand e.2 fs
      let toFixed := fun (n : Nat) (w : Instr × BitVec 2) =>
        (e.2.denormal a = true → s.fpTrapped w.1 fpE) ∧
        (e.2.denormal a = false →
          ((e.2.value a).isFin = false ∨ ∃ z, roundsTo w.2 (e.2.value a).rat z ∧ ¬ fits n z) →
          if s.cfg.fixedConvertInvalid = true then invalid w.1 (n == 64) (2 ^ (n - 1) - 1) else s.fpTrapped w.1 fpE)
      (∀ w ∈ [(Instr.roundWFmt e.1 fs fd, 0#2), (.truncWFmt e.1 fs fd, 1), (.ceilWFmt e.1 fs fd, 2),
        (.floorWFmt e.1 fs fd, 3), (.cvtWFmt e.1 fs fd, fcrRM s.fcrSeen)], toFixed 32 w) ∧
      (s.ops64Enabled = true → s.holds fmtD fd →
        ∀ w ∈ [(Instr.roundLFmt e.1 fs fd, 0#2), (.truncLFmt e.1 fs fd, 1), (.ceilLFmt e.1 fs fd, 2),
          (.floorLFmt e.1 fs fd, 3), (.cvtLFmt e.1 fs fd, fcrRM s.fcrSeen)], toFixed 64 w)) ∧
    (∀ fmt ∈ [(20 : BitVec 5), 21], (fmt = 21 → s.ops64Enabled = true) →
      ∀ i ∈ [Instr.addFmt fmt ft fs fd, .subFmt fmt ft fs fd, .mulFmt fmt ft fs fd, .divFmt fmt ft fs fd,
        .sqrtFmt fmt fs fd, .absFmt fmt fs fd, .negFmt fmt fs fd, .movFmt fmt fs fd, .roundWFmt fmt fs fd,
        .truncWFmt fmt fs fd, .ceilWFmt fmt fs fd, .floorWFmt fmt fs fd, .cvtWFmt fmt fs fd, .cCondFmt fmt ft fs cond],
        s.fpTrapped i fpE) ∧
    (s.ops64Enabled = true → ∀ fmt ∈ [(20 : BitVec 5), 21], ∀ i ∈ [Instr.roundLFmt fmt fs fd, .truncLFmt fmt fs fd,
      .ceilLFmt fmt fs fd, .floorLFmt fmt fs fd, .cvtLFmt fmt fs fd], s.fpTrapped i fpE) ∧
    (∀ i ∈ [Instr.cvtSFmt 16 fs fd, .cvtDFmt 17 fs fd], s.fpTrapped i fpE)

/-! ### Exceptions, interrupts, reset, translation -/

/-- The general exception process: the cause code by kind, BD and EPC by whether the instruction is in a delay slot,
EPC only if EXL was 0, EXL set, control to the vector of BEV and kind; no general register, no memory. A Cache Error
saves the restart address in ErrorEPC, loads CacheErr with the error's kind and place, sets ERL and goes to the uncached
vector; Cause and EPC stay. That EB is open after an instruction's error and 0 after a data one is the model's choice,
log 20 (60_exceptions R690 to R693, R713, R714, 11_cp0_registers R110). -/
def Obligations.ExceptionEntry : Prop :=
  ∀ (s : State) (x : Exc), s.hist = [] →
    let t := s.raise x
    let refill := fun va : DWord => decide (¬ s.cp0.status.getLsbD 1 = true) && decide (x = .tlbRefill va (x.code == 3))
    let base : DWord := if s.cp0.status.getLsbD 22 then 0xFFFFFFFFBFC00200#64 else 0xFFFFFFFF80000000#64
    t.cp0.cause.toNat / 4 % 32 =
      (match x with
        | .interrupt => 0 | .tlbModified _ => 1 | .tlbRefill _ st => if st then 3 else 2
        | .tlbInvalid _ st => if st then 3 else 2 | .addressError _ st => if st then 5 else 4
        | .busError f => if f then 6 else 7 | .sysCall => 8 | .breakpoint => 9 | .reservedInstruction => 10
        | .coprocessorUnusable _ => 11 | .overflow => 12 | .trap => 13 | .floatingPoint => 15) ∧
    t.cp0.cause.getLsbD 31 = s.pending.isSome ∧
    (∀ z, x = .coprocessorUnusable z → t.cp0.cause.extractLsb' 28 2 = z) ∧
    t.cp0.cause.extractLsb' 8 2 = s.cp0.cause.extractLsb' 8 2 ∧
    t.cp0.epc = (if s.cp0.status.getLsbD 1 then s.cp0.epc else match s.pending with
      | some p => p.branchPc | none => s.pc) ∧
    (∀ b < 32, t.cp0.status.getLsbD b = (s.cp0.status.getLsbD b || b == 1)) ∧
    ((∀ va, refill va = false) → t.pc = base + 0x180) ∧
    (∀ va, refill va = true → t.pc = base ∨ t.pc = base + 0x80) ∧
    (∀ va, refill va = true → va.toNat < 2 ^ 62 →
      t.pc = if s.cp0.status.getLsbD 5 then base + 0x80 else base) ∧
    t.pending = none ∧
    t = { s with
      pc := t.pc, pending := none, exc := true
      cp0 := { s.cp0 with
        cause := t.cp0.cause, epc := t.cp0.epc, status := t.cp0.status, badVAddr := t.cp0.badVAddr
        context := t.cp0.context, xContext := t.cp0.xContext, entryHi := t.cp0.entryHi
        entryLo0 := t.cp0.entryLo0, entryLo1 := t.cp0.entryLo1 } } ∧
    ∀ p : ParityError,
      let u := s.raiseCacheError p
      let c := u.cp0.cacheErr
      u.cp0.errorEpc = (match s.pending with | some b => b.branchPc | none => s.pc) ∧
      c.getLsbD 31 = p.er ∧ c.getLsbD 30 = false ∧ c.getLsbD 29 = p.ed ∧ c.getLsbD 28 = p.et ∧
      c.getLsbD 27 = false ∧ c.getLsbD 26 = p.ee ∧ (p.er = true → c.getLsbD 25 = false) ∧
      c.toNat / 2 ^ 22 % 8 = 0 ∧ c.toNat / 8 % 2 ^ 19 = p.pa.toNat / 8 % 2 ^ 19 ∧
      c.toNat % 8 = p.va.toNat / 2 ^ 12 % 4 ∧
      (∀ b < 32, u.cp0.status.getLsbD b = (s.cp0.status.getLsbD b || b == 2)) ∧
      u.pc = (if s.cp0.status.getLsbD 22 then 0xFFFFFFFFBFC00300#64 else 0xFFFFFFFFA0000100#64) ∧
      u = { s with
        pc := u.pc, pending := none, exc := true
        cp0 := { s.cp0 with errorEpc := u.cp0.errorEpc, cacheErr := c, status := u.cp0.status } }

/-- A TLB exception for an address writes BadVAddr (unless EXL was 1), the BadVPN2 fields of Context and XContext, the
R field of XContext and R and VPN2 of EntryHi from the address; PTEBase and ASID stay. An Address Error writes
BadVAddr, unless EXL was 1. The other exceptions write none of these (60_exceptions R700 to R704). -/
def Obligations.FaultRegisters : Prop :=
  ∀ (s : State) (va : DWord) (store : Bool) (z : BitVec 2),
    (∀ x ∈ [Exc.tlbRefill va store, .tlbInvalid va store, .tlbModified va],
      let c := (s.raise x).cp0
      (s.cp0.status.getLsbD 1 = false → c.badVAddr = va) ∧
      (s.cp0.status.getLsbD 1 = true → c.badVAddr = s.cp0.badVAddr) ∧
      (∀ k < 19, c.context.getLsbD (4 + k) = va.getLsbD (13 + k)) ∧
      (∀ k < 41, c.context.getLsbD (23 + k) = s.cp0.context.getLsbD (23 + k)) ∧
      (∀ k < 27, c.xContext.getLsbD (4 + k) = va.getLsbD (13 + k)) ∧
      (∀ k < 2, c.xContext.getLsbD (31 + k) = va.getLsbD (62 + k)) ∧
      (∀ k < 31, c.xContext.getLsbD (33 + k) = s.cp0.xContext.getLsbD (33 + k)) ∧
      c.entryHi.toNat % 256 = s.cp0.entryHi.toNat % 256 ∧
      (∀ k < 27, c.entryHi.getLsbD (13 + k) = va.getLsbD (13 + k)) ∧
      c.entryHi.toNat / 2 ^ 62 = va.toNat / 2 ^ 62) ∧
    (s.cp0.status.getLsbD 1 = false → (s.raise (.addressError va store)).cp0.badVAddr = va) ∧
    (s.cp0.status.getLsbD 1 = true → (s.raise (.addressError va store)).cp0.badVAddr = s.cp0.badVAddr) ∧
    ∀ x ∈ [Exc.interrupt, .coprocessorUnusable z, .busError store, .sysCall, .breakpoint, .reservedInstruction, .overflow, .trap,
        .floatingPoint],
      let c := (s.raise x).cp0
      c.badVAddr = s.cp0.badVAddr ∧ c.context = s.cp0.context ∧ c.xContext = s.cp0.xContext ∧
      c.entryHi = s.cp0.entryHi ∧ c.entryLo0 = s.cp0.entryLo0 ∧ c.entryLo1 = s.cp0.entryLo1

/-- At the end of a step Count has advanced by the ticks that came due, and the timer interrupt is pending if it was
or if Count met Compare on the way; nothing else changes but the phase and the model's counter
(60_exceptions R740, 11_cp0_registers R86, R87). -/
def Obligations.TimerTicks : Prop :=
  ∀ s : State,
    let n := (s.countPhase + s.cfg.countNum) / s.cfg.countDen
    let t := s.tick
    t.cp0.count.toNat = (s.cp0.count.toNat + n) % 2 ^ 32 ∧
    (t.timerInt = true ↔ s.timerInt = true ∨
      ∃ k, 1 ≤ k ∧ k ≤ n ∧ (s.cp0.count.toNat + k) % 2 ^ 32 = s.cp0.compare.toNat) ∧
    t = { s with
      countPhase := t.countPhase, free := t.free, timerInt := t.timerInt, cp0 := { s.cp0 with count := t.cp0.count } }

/-- An enabled, unmasked interrupt is taken in place of an instruction that raises no exception, and that instruction
has no effect. It is enabled when IE is 1 and EXL and ERL are 0; its requests are the pins and the Interrupt register,
the timer or pin 5, and the two software bits of Cause (60_exceptions R698, R730, R732, R733). -/
def Obligations.InterruptTaken : Prop :=
  ∀ (s u : State),
    let enabled := s.cp0.status.getLsbD 0 = true ∧ s.cp0.status.getLsbD 1 = false ∧ s.cp0.status.getLsbD 2 = false
    let request := fun k : Nat =>
      if k < 2 then s.cp0.cause.getLsbD (8 + k)
      else if k = 7 ∧ s.cfg.tmrIntEn = false then s.timerInt
      else s.intPins.getLsbD (k - 2) || s.intReg.getLsbD (k - 2)
    let asked := ∃ k < 8, request k = true ∧ s.cp0.status.getLsbD (8 + k) = true
    s.hist = [] → s.runNext exec = .next u → u.exc = false → u.busWait = none →
    (enabled ∧ asked → s.runOrInterrupt exec = .next (s.raise .interrupt)) ∧
    (¬ (enabled ∧ asked) → s.runOrInterrupt exec = .next u)

/-- Soft Reset and a nonmaskable interrupt keep every register and the link but ErrorEPC, which gets the restart
address, Status (BEV, SR and ERL 1, bit 21 zero) and pc, and every cache line but those whose refill or write-back a
Soft Reset aborts; a Reset leaves Random 47, Wired 0, Status and Config as the boot stream says (70_reset_and_hazards
R830, R832, R833, R836, 22_caches R238). -/
def Obligations.Resets : Prop :=
  ∀ (s : State) (i : Input) (rest : List Input), s.inputs = i :: rest →
    let restart := match s.pending with | some p => p.branchPc | none => s.pc
    let touched := fun (instr : Bool) (k : Nat) =>
      (∃ w, s.busWait = some w ∧ w.line = some (instr, k)) ∨ ∃ e ∈ s.wbuf, e.slot = some (instr, k)
    let entered := fun t : State =>
      t.pc = 0xFFFFFFFFBFC00000#64 ∧ t.cp0.errorEpc = restart ∧
      (∀ b < 32, t.cp0.status.getLsbD b =
        if b = 2 ∨ b = 20 ∨ b = 22 then true else if b = 21 then false else s.cp0.status.getLsbD b) ∧
      t.pending = none ∧ t.gpr = s.gpr ∧ t.hi = s.hi ∧ t.lo = s.lo ∧ t.fgr = s.fgr ∧ t.fcr31 = s.fcr31 ∧
      t.tlb = s.tlb ∧ t.llbit = s.llbit ∧ t.linkPa = s.linkPa ∧ (∀ k, ¬ touched false k → t.dline k = s.dline k) ∧
      (∀ k, ¬ touched true k → t.iline k = s.iline k) ∧ t.cfg = s.cfg ∧
      t.cp0 = { s.cp0 with errorEpc := t.cp0.errorEpc, status := t.cp0.status, count := t.cp0.count }
    (i.reset = .soft → ∃ t, step s = .next t ∧ entered t ∧ t.wbuf = [] ∧ t.busWait = none ∧ t.slave = false) ∧
    (i.reset = .none → i.requests = [] → s.busWait = none → i.nmi = true → s.nmiPrev = false →
      ∃ t, step s = .next t ∧ entered t ∧ t.wbuf = s.wbuf ∧ t.mem = s.mem ∧ t.dcache = s.dcache ∧
        t.icache = s.icache) ∧
    (∀ st, i.reset = .cold st → streamOk st = true → ∃ t, step s = .next t ∧
      t.pc = 0xFFFFFFFFBFC00000#64 ∧ t.cp0.random = 47 ∧ t.cp0.wired = 0 ∧ t.cp0.errorEpc = restart ∧
      t.cp0.status.getLsbD 2 = true ∧ t.cp0.status.getLsbD 22 = true ∧ t.cp0.status.getLsbD 20 = false ∧
      t.cp0.status.getLsbD 21 = false ∧ t.wbuf = [] ∧ t.cfg.bigEndian = st.getLsbD 8 ∧
      t.cp0.config.getLsbD 15 = st.getLsbD 8 ∧ t.cp0.config.toNat / 2 ^ 28 % 8 = st.toNat / 2 ^ 5 % 8 ∧
      t.cp0.config.toNat / 2 ^ 24 % 16 = st.toNat / 2 % 16 ∧ t.cp0.config.toNat / 8 % 2 ^ 12 = 0xC96)

/-- Translation. Kernel mode: the two unmapped compatibility segments give the low 29 bits, one with Config's K0
attribute and one uncached; with 64-bit addressing xkphys gives the low 36 bits with the attribute of bits 61:59; with
ERL the low 2^31 bytes are unmapped and uncached. The first table lists the mapped ranges of each mode and width, the
second the addresses that take the Address Error exception. A mapped address goes through one matching TLB entry with a
legal mask: the selected page's frame number above the page offset, with its attribute; TLB Invalid or TLB Modified by V
and D; no entry at all, TLB Refill. The spec's own decisions, the model's choices, are: the low PFN bits of a large page
are ignored (D20, R207, log 14); addresses that are not sign-extended and the holes of the Kernel map are Address Errors
(D17, R190, R195, log 29); attributes 4 to 7 act as 3 (D19, R194, log 29); xkuseg above 2^31 stays mapped with ERL (D18,
R191, log 29) (21_mmu_tlb R182 to R191, R194, R195, R203, R207, R210). -/
def Obligations.Translation : Prop :=
  ∀ (s : State) (k : AccessKind) (va : DWord), s.hist = [] →
    let st := s.cp0.status
    let mode := modeOf st
    let v := va.toNat
    let attr := fun c : BitVec 3 => if c.toNat ≥ 4 then (3 : BitVec 3) else c
    let found := fun e : TlbEntry =>
      e.r.toNat = v / 2 ^ 62 ∧ (e.g = true ∨ e.asid.toNat = s.cp0.entryHi.toNat % 256) ∧
      ∀ b < 27, e.mask.getLsbD b = false → e.vpn2.getLsbD b = va.getLsbD (13 + b)
    let within := fun (e : Mode × Nat × Bool × Nat × Nat) =>
      mode = some e.1 ∧ st.getLsbD e.2.1 = e.2.2.1 ∧ e.2.2.2.1 ≤ v ∧ v < e.2.2.2.2
    let unmappedUser := mode = some .kernel ∧ st.getLsbD 2 = true ∧ v < 2 ^ 31
    let mapped : List (Mode × Nat × Bool × Nat × Nat) :=
      [(.user, 5, false, 0, 2 ^ 31), (.user, 5, true, 0, 2 ^ 40), (.supervisor, 6, false, 0, 2 ^ 31),
       (.supervisor, 6, false, 0xFFFFFFFFC0000000, 0xFFFFFFFFE0000000), (.supervisor, 6, true, 0, 2 ^ 40),
       (.supervisor, 6, true, 2 ^ 62, 2 ^ 62 + 2 ^ 40),
       (.supervisor, 6, true, 0xFFFFFFFFC0000000, 0xFFFFFFFFE0000000), (.kernel, 7, false, 0, 2 ^ 31),
       (.kernel, 7, false, 0xFFFFFFFFC0000000, 2 ^ 64), (.kernel, 7, true, 0, 2 ^ 40),
       (.kernel, 7, true, 2 ^ 62, 2 ^ 62 + 2 ^ 40), (.kernel, 7, true, 0xC000000000000000, 0xC00000FF80000000),
       (.kernel, 7, true, 0xFFFFFFFFC0000000, 2 ^ 64)]
    let illegal : List (Mode × Nat × Bool × Nat × Nat) :=
      [(.user, 5, false, 2 ^ 31, 2 ^ 64), (.user, 5, true, 2 ^ 40, 2 ^ 64),
       (.supervisor, 6, false, 2 ^ 31, 0xFFFFFFFFC0000000), (.supervisor, 6, false, 0xFFFFFFFFE0000000, 2 ^ 64),
       (.supervisor, 6, true, 2 ^ 40, 2 ^ 62), (.supervisor, 6, true, 2 ^ 62 + 2 ^ 40, 0xFFFFFFFFC0000000),
       (.supervisor, 6, true, 0xFFFFFFFFE0000000, 2 ^ 64), (.kernel, 7, false, 2 ^ 31, 0xFFFFFFFF80000000),
       (.kernel, 7, true, 2 ^ 40, 2 ^ 62), (.kernel, 7, true, 2 ^ 62 + 2 ^ 40, 2 ^ 63),
       (.kernel, 7, true, 0xC00000FF80000000, 0xFFFFFFFF80000000)]
    (mode = some .kernel → v / 2 ^ 29 = 0x7FFFFFFFC →
      s.translate k va = .ok (BitVec.ofNat 36 (v % 2 ^ 29)) (attr (s.cp0.config.extractLsb' 0 3))) ∧
    (mode = some .kernel → v / 2 ^ 29 = 0x7FFFFFFFD → s.translate k va = .ok (BitVec.ofNat 36 (v % 2 ^ 29)) 2) ∧
    (mode = some .kernel → st.getLsbD 7 = true → v / 2 ^ 62 = 2 → s.translate k va =
      if v / 2 ^ 36 % 2 ^ 23 = 0 then .ok (BitVec.ofNat 36 (v % 2 ^ 36)) (attr (BitVec.ofNat 3 (v / 2 ^ 59 % 8)))
      else .exc (.addressError va (k == .store))) ∧
    (unmappedUser → s.translate k va = .ok (BitVec.ofNat 36 v) 2) ∧
    (∀ e ∈ illegal, within e → s.translate k va = .exc (.addressError va (k == .store))) ∧
    (∀ e ∈ mapped, within e → ¬ unmappedUser →
      (∀ i : Fin 48, legalMask s.tlb[i].mask = true) →
      ((∀ i : Fin 48, ¬ found s.tlb[i]) → s.translate k va = .exc (.tlbRefill va (k == .store))) ∧
      (∀ i : Fin 48, found s.tlb[i] → (∀ j : Fin 48, found s.tlb[j] → j = i) →
        let size := 4096 * (s.tlb[i].mask.toNat + 1)
        let half := if v / size % 2 = 1 then s.tlb[i].lo1 else s.tlb[i].lo0
        (half.v = false → s.translate k va = .exc (.tlbInvalid va (k == .store))) ∧
        (half.v = true → half.d = false → k = .store → s.translate k va = .exc (.tlbModified va)) ∧
        (half.v = true → half.d = true ∨ k ≠ .store →
          s.translate k va =
            .ok (BitVec.ofNat 36 (half.pfn.toNat * 4096 / size * size + v % size)) (attr half.c))))
end

