-- ==== Sys2Proof/Laws/Memory.lean ====
section
/-! SUPPORT. The sparse maps that hold memory and the caches: a write keeps the canonical form, a read after a
write gives the value written, and a write leaves every other key alone. Then the same for memory itself and for
the operations that store several bytes. -/
namespace Sys2Proof.Machine

section Sparse
variable {α : Type} [DecidableEq α] (dflt : α)

/-- The canonical form with a lower bound is the canonical form. -/
theorem sparseWfFrom_none {lo : Option Nat} {m : List (Nat × α)} (h : sparseWfFrom dflt lo m = true) :
    sparseWf dflt m = true := by
  cases m with
  | nil => rfl
  | cons p t => simp_all [sparseWf, sparseWfFrom]

/-- A lower bound may be replaced by a smaller one. -/
theorem sparseWfFrom_weaken {a b : Nat} (hab : b ≤ a) {m : List (Nat × α)}
    (h : sparseWfFrom dflt (some a) m = true) : sparseWfFrom dflt (some b) m = true := by
  cases m with
  | nil => rfl
  | cons p t => simp_all [sparseWfFrom]; omega

/-- A write at a key above the lower bound keeps the canonical form. -/
theorem sparseWfFrom_put {lo : Option Nat} {m : List (Nat × α)} {k : Nat} {v : α}
    (h : sparseWfFrom dflt lo m = true) (hk : ∀ l, lo = some l → l < k) :
    sparseWfFrom dflt lo (sparsePut dflt m k v) = true := by
  induction m generalizing lo with
  | nil => by_cases hv : v = dflt <;> cases lo <;> simp_all [sparsePut, sparseWfFrom]
  | cons p t ih =>
    obtain ⟨k', v'⟩ := p
    simp only [sparseWfFrom, Bool.and_eq_true, decide_eq_true_eq] at h
    obtain ⟨⟨h1, h2⟩, h3⟩ := h
    unfold sparsePut
    by_cases hlt : k < k'
    · by_cases hv : v = dflt <;> cases lo <;> simp_all [sparseWfFrom]
    · by_cases heq : k = k'
      · subst heq
        by_cases hv : v = dflt
        · simp only [hlt, if_false, if_true, hv]
          cases lo with
          | none => exact sparseWfFrom_none dflt h3
          | some l => exact sparseWfFrom_weaken dflt (Nat.le_of_lt (hk l rfl)) h3
        · simp_all [sparseWfFrom]
      · have hgt : k' < k := by omega
        simp only [hlt, heq, if_false, sparseWfFrom, Bool.and_eq_true, decide_eq_true_eq]
        exact ⟨⟨h1, h2⟩, ih h3 (fun l hl => by cases hl; exact hgt)⟩

/-- A write keeps the canonical form. -/
theorem sparseWf_put {m : List (Nat × α)} (h : sparseWf dflt m = true) (k : Nat) (v : α) :
    sparseWf dflt (sparsePut dflt m k v) = true :=
  sparseWfFrom_put dflt h (fun _ hl => by cases hl)

/-- A read after a write at the same key gives the value written. -/
theorem sparseGet_put_same {lo : Option Nat} {m : List (Nat × α)} (h : sparseWfFrom dflt lo m = true)
    (k : Nat) (v : α) : sparseGet dflt (sparsePut dflt m k v) k = v := by
  induction m generalizing lo with
  | nil => by_cases hv : v = dflt <;> simp [sparsePut, sparseGet, hv]
  | cons p t ih =>
    obtain ⟨k', v'⟩ := p
    simp only [sparseWfFrom, Bool.and_eq_true, decide_eq_true_eq] at h
    obtain ⟨_, h3⟩ := h
    have above : ∀ (b : Nat) (l : List (Nat × α)), sparseWfFrom dflt (some b) l = true → k ≤ b →
        sparseGet dflt l k = dflt := by
      intro b l
      induction l generalizing b with
      | nil => intros; rfl
      | cons q u ihq =>
        intro hq hb
        simp only [sparseWfFrom, Bool.and_eq_true, decide_eq_true_eq] at hq
        have : q.1 ≠ k := by omega
        simp only [sparseGet, this, if_false]
        exact ihq q.1 hq.2 (by omega)
    unfold sparsePut
    by_cases hlt : k < k'
    · by_cases hv : v = dflt
      · have h4 : k' ≠ k := by omega
        simp only [hlt, if_true, hv, sparseGet, h4, if_false]
        exact above k' t h3 (by omega)
      · simp [hlt, hv, sparseGet]
    · by_cases heq : k = k'
      · subst heq
        by_cases hv : v = dflt
        · simp only [hlt, if_false, if_true, hv]
          exact above k t h3 (Nat.le_refl k)
        · simp [hv, sparseGet]
      · have h4 : k' ≠ k := fun e => heq e.symm
        simp only [hlt, heq, if_false, sparseGet, h4]
        exact ih h3

/-- A write leaves every other key alone. -/
theorem sparseGet_put_other (m : List (Nat × α)) {k j : Nat} (hj : j ≠ k) (v : α) :
    sparseGet dflt (sparsePut dflt m k v) j = sparseGet dflt m j := by
  induction m with
  | nil => by_cases hv : v = dflt <;> simp [sparsePut, sparseGet, hv, hj.symm]
  | cons p t ih =>
    obtain ⟨k', v'⟩ := p
    unfold sparsePut
    by_cases hlt : k < k'
    · by_cases hv : v = dflt <;> simp [hlt, hv, sparseGet, hj.symm]
    · by_cases heq : k = k'
      · subst heq
        by_cases hv : v = dflt <;> simp [hv, sparseGet, hj.symm]
      · simp [hlt, heq, sparseGet, ih]

end Sparse

/-! ### Memory -/

/-- A write keeps memory in canonical form. -/
theorem memory_write_wf {m : List Host.Cell} (h : Memory.wf m = true) (a : Nat) (v : Byte) :
    Memory.wf (Memory.write m a v) = true := sparseWf_put _ h a v

/-- A read after a write to the same address. -/
theorem memory_read_write_same {m : List Host.Cell} (h : Memory.wf m = true) (a : Nat) (v : Byte) :
    Memory.read (Memory.write m a v) a = v := sparseGet_put_same _ (lo := none) h a v

/-- A write leaves every other address alone. -/
theorem memory_read_write_other (m : List Host.Cell) {a b : Nat} (h : b ≠ a) (v : Byte) :
    Memory.read (Memory.write m a v) b = Memory.read m b := sparseGet_put_other _ m h v

/-- The memory after reset is in canonical form. -/
theorem reset_memory_wf : Memory.wf State.reset.mem = true := by decide

/-- Storing several bytes keeps the canonical form. -/
theorem storeBytes_wf {m : List Host.Cell} (h : Memory.wf m = true) (base : Nat) (f : Nat → Byte) (n : Nat) :
    Memory.wf (storeBytes m base f n) = true := by
  induction n with
  | zero => exact h
  | succ n ih => exact memory_write_wf ih _ _

/-- A byte that was stored. -/
theorem storeBytes_read {m : List Host.Cell} (h : Memory.wf m = true) (base : Nat) (f : Nat → Byte) {n k : Nat}
    (hk : k < n) : Memory.read (storeBytes m base f n) (base + k) = f k := by
  induction n with
  | zero => omega
  | succ n ih =>
    by_cases heq : k = n
    · subst heq; exact memory_read_write_same (storeBytes_wf h base f k) _ _
    · rw [storeBytes, memory_read_write_other _ (by omega)]
      exact ih (by omega)

/-- A byte outside the stored ones. -/
theorem storeBytes_read_other (m : List Host.Cell) (base : Nat) (f : Nat → Byte) (n : Nat) {a : Nat}
    (ha : a < base ∨ base + n ≤ a) : Memory.read (storeBytes m base f n) a = Memory.read m a := by
  induction n with
  | zero => rfl
  | succ n ih =>
    rw [storeBytes, memory_read_write_other _ (by omega)]
    exact ih (by omega)

/-- Every write buffer entry keeps memory in canonical form. -/
theorem wentry_apply_wf (be : Bool) {m : List Host.Cell} (h : Memory.wf m = true) (e : WEntry) :
    Memory.wf (e.apply be m) = true := by
  cases e <;> exact storeBytes_wf h _ _ _

/-- Storing a line keeps the canonical form. -/
theorem storeLine_wf {m : List Host.Cell} (h : Memory.wf m = true) (pa : PAddr) (d : LineData) :
    Memory.wf (storeLine m pa d) = true := storeBytes_wf h _ _ _

/-! ### The caches -/

/-- Replacing a data line keeps the cache in canonical form. -/
theorem putDline_wf {s : State} (h : sparseWf DLine.zero s.dcache = true) (i : Nat) (l : DLine) :
    sparseWf DLine.zero (s.putDline i l).dcache = true := sparseWf_put _ h i l

/-- Replacing an instruction line keeps the cache in canonical form. -/
theorem putIline_wf {s : State} (h : sparseWf ILine.zero s.icache = true) (i : Nat) (l : ILine) :
    sparseWf ILine.zero (s.putIline i l).icache = true := sparseWf_put _ h i l

/-- A data line that was replaced. -/
theorem dline_put_same {s : State} (h : sparseWf DLine.zero s.dcache = true) (i : Nat) (l : DLine) :
    (s.putDline i l).dline i = l := sparseGet_put_same _ (lo := none) h i l

/-- Every other data line. -/
theorem dline_put_other (s : State) {i j : Nat} (h : j ≠ i) (l : DLine) :
    (s.putDline i l).dline j = s.dline j := sparseGet_put_other _ _ h l

/-- An instruction line that was replaced. -/
theorem iline_put_same {s : State} (h : sparseWf ILine.zero s.icache = true) (i : Nat) (l : ILine) :
    (s.putIline i l).iline i = l := sparseGet_put_same _ (lo := none) h i l

/-- Every other instruction line. -/
theorem iline_put_other (s : State) {i j : Nat} (h : j ≠ i) (l : ILine) :
    (s.putIline i l).iline j = s.iline j := sparseGet_put_other _ _ h l

end Sys2Proof.Machine
end

