-- ==== Sys2Proof/Laws/State.lean ====
section
/-! SUPPORT. What each named update of the state does to each field: one lemma per field, true by rfl, so that no
proof unfolds a record update. -/
namespace Sys2Proof.Machine

/-! late write recorded -/

@[simp] theorem note_gpr (s : State) (l : Late) : (s.note l).gpr = s.gpr := rfl
@[simp] theorem note_hi (s : State) (l : Late) : (s.note l).hi = s.hi := rfl
@[simp] theorem note_lo (s : State) (l : Late) : (s.note l).lo = s.lo := rfl
@[simp] theorem note_pc (s : State) (l : Late) : (s.note l).pc = s.pc := rfl
@[simp] theorem note_pending (s : State) (l : Late) : (s.note l).pending = s.pending := rfl
@[simp] theorem note_llbit (s : State) (l : Late) : (s.note l).llbit = s.llbit := rfl
@[simp] theorem note_linkPa (s : State) (l : Late) : (s.note l).linkPa = s.linkPa := rfl
@[simp] theorem note_hiloFresh (s : State) (l : Late) : (s.note l).hiloFresh = s.hiloFresh := rfl
@[simp] theorem note_cp0 (s : State) (l : Late) : (s.note l).cp0 = s.cp0 := rfl
@[simp] theorem note_timerInt (s : State) (l : Late) : (s.note l).timerInt = s.timerInt := rfl
@[simp] theorem note_countPhase (s : State) (l : Late) : (s.note l).countPhase = s.countPhase := rfl
@[simp] theorem note_tlb (s : State) (l : Late) : (s.note l).tlb = s.tlb := rfl
@[simp] theorem note_fgr (s : State) (l : Late) : (s.note l).fgr = s.fgr := rfl
@[simp] theorem note_fcr31 (s : State) (l : Late) : (s.note l).fcr31 = s.fcr31 := rfl
@[simp] theorem note_icache (s : State) (l : Late) : (s.note l).icache = s.icache := rfl
@[simp] theorem note_dcache (s : State) (l : Late) : (s.note l).dcache = s.dcache := rfl
@[simp] theorem note_wbuf (s : State) (l : Late) : (s.note l).wbuf = s.wbuf := rfl
@[simp] theorem note_mem (s : State) (l : Late) : (s.note l).mem = s.mem := rfl
@[simp] theorem note_intPins (s : State) (l : Late) : (s.note l).intPins = s.intPins := rfl
@[simp] theorem note_nmiPin (s : State) (l : Late) : (s.note l).nmiPin = s.nmiPin := rfl
@[simp] theorem note_intReg (s : State) (l : Late) : (s.note l).intReg = s.intReg := rfl
@[simp] theorem note_nmiPrev (s : State) (l : Late) : (s.note l).nmiPrev = s.nmiPrev := rfl
@[simp] theorem note_nmiLatch (s : State) (l : Late) : (s.note l).nmiLatch = s.nmiLatch := rfl
@[simp] theorem note_standby (s : State) (l : Late) : (s.note l).standby = s.standby := rfl
@[simp] theorem note_slave (s : State) (l : Late) : (s.note l).slave = s.slave := rfl
@[simp] theorem note_busWait (s : State) (l : Late) : (s.note l).busWait = s.busWait := rfl
@[simp] theorem note_busReply (s : State) (l : Late) : (s.note l).busReply = s.busReply := rfl
@[simp] theorem note_hist (s : State) (l : Late) : (s.note l).hist = { age := 0, what := l } :: s.hist := rfl
@[simp] theorem note_cfg (s : State) (l : Late) : (s.note l).cfg = s.cfg := rfl
@[simp] theorem note_inputs (s : State) (l : Late) : (s.note l).inputs = s.inputs := rfl
@[simp] theorem note_dma (s : State) (l : Late) : (s.note l).dma = s.dma := rfl
@[simp] theorem note_bus (s : State) (l : Late) : (s.note l).bus = s.bus := rfl
@[simp] theorem note_free (s : State) (l : Late) : (s.note l).free = s.free := rfl
@[simp] theorem note_exc (s : State) (l : Late) : (s.note l).exc = s.exc := rfl

/-! request on the bus -/

@[simp] theorem issue_gpr (s : State) (r : BusReq) : (s.issue r).gpr = s.gpr := rfl
@[simp] theorem issue_hi (s : State) (r : BusReq) : (s.issue r).hi = s.hi := rfl
@[simp] theorem issue_lo (s : State) (r : BusReq) : (s.issue r).lo = s.lo := rfl
@[simp] theorem issue_pc (s : State) (r : BusReq) : (s.issue r).pc = s.pc := rfl
@[simp] theorem issue_pending (s : State) (r : BusReq) : (s.issue r).pending = s.pending := rfl
@[simp] theorem issue_llbit (s : State) (r : BusReq) : (s.issue r).llbit = s.llbit := rfl
@[simp] theorem issue_linkPa (s : State) (r : BusReq) : (s.issue r).linkPa = s.linkPa := rfl
@[simp] theorem issue_hiloFresh (s : State) (r : BusReq) : (s.issue r).hiloFresh = s.hiloFresh := rfl
@[simp] theorem issue_cp0 (s : State) (r : BusReq) : (s.issue r).cp0 = s.cp0 := rfl
@[simp] theorem issue_timerInt (s : State) (r : BusReq) : (s.issue r).timerInt = s.timerInt := rfl
@[simp] theorem issue_countPhase (s : State) (r : BusReq) : (s.issue r).countPhase = s.countPhase := rfl
@[simp] theorem issue_tlb (s : State) (r : BusReq) : (s.issue r).tlb = s.tlb := rfl
@[simp] theorem issue_fgr (s : State) (r : BusReq) : (s.issue r).fgr = s.fgr := rfl
@[simp] theorem issue_fcr31 (s : State) (r : BusReq) : (s.issue r).fcr31 = s.fcr31 := rfl
@[simp] theorem issue_icache (s : State) (r : BusReq) : (s.issue r).icache = s.icache := rfl
@[simp] theorem issue_dcache (s : State) (r : BusReq) : (s.issue r).dcache = s.dcache := rfl
@[simp] theorem issue_wbuf (s : State) (r : BusReq) : (s.issue r).wbuf = s.wbuf := rfl
@[simp] theorem issue_mem (s : State) (r : BusReq) : (s.issue r).mem = storeEach s.mem (s.dma.headD []) := rfl
@[simp] theorem issue_intPins (s : State) (r : BusReq) : (s.issue r).intPins = s.intPins := rfl
@[simp] theorem issue_nmiPin (s : State) (r : BusReq) : (s.issue r).nmiPin = s.nmiPin := rfl
@[simp] theorem issue_intReg (s : State) (r : BusReq) : (s.issue r).intReg = s.intReg := rfl
@[simp] theorem issue_nmiPrev (s : State) (r : BusReq) : (s.issue r).nmiPrev = s.nmiPrev := rfl
@[simp] theorem issue_nmiLatch (s : State) (r : BusReq) : (s.issue r).nmiLatch = s.nmiLatch := rfl
@[simp] theorem issue_standby (s : State) (r : BusReq) : (s.issue r).standby = s.standby := rfl
@[simp] theorem issue_slave (s : State) (r : BusReq) : (s.issue r).slave = s.slave := rfl
@[simp] theorem issue_busWait (s : State) (r : BusReq) : (s.issue r).busWait = s.busWait := rfl
@[simp] theorem issue_busReply (s : State) (r : BusReq) : (s.issue r).busReply = s.busReply := rfl
@[simp] theorem issue_hist (s : State) (r : BusReq) : (s.issue r).hist = s.hist := rfl
@[simp] theorem issue_cfg (s : State) (r : BusReq) : (s.issue r).cfg = s.cfg := rfl
@[simp] theorem issue_inputs (s : State) (r : BusReq) : (s.issue r).inputs = s.inputs := rfl
@[simp] theorem issue_dma (s : State) (r : BusReq) : (s.issue r).dma = s.dma.tail := rfl
@[simp] theorem issue_bus (s : State) (r : BusReq) : (s.issue r).bus = r :: s.bus := rfl
@[simp] theorem issue_free (s : State) (r : BusReq) : (s.issue r).free = s.free := rfl
@[simp] theorem issue_exc (s : State) (r : BusReq) : (s.issue r).exc = s.exc := rfl

/-! data line replaced -/

@[simp] theorem putDline_gpr (s : State) (i : Nat) (l : DLine) : (s.putDline i l).gpr = s.gpr := rfl
@[simp] theorem putDline_hi (s : State) (i : Nat) (l : DLine) : (s.putDline i l).hi = s.hi := rfl
@[simp] theorem putDline_lo (s : State) (i : Nat) (l : DLine) : (s.putDline i l).lo = s.lo := rfl
@[simp] theorem putDline_pc (s : State) (i : Nat) (l : DLine) : (s.putDline i l).pc = s.pc := rfl
@[simp] theorem putDline_pending (s : State) (i : Nat) (l : DLine) : (s.putDline i l).pending = s.pending := rfl
@[simp] theorem putDline_llbit (s : State) (i : Nat) (l : DLine) : (s.putDline i l).llbit = s.llbit := rfl
@[simp] theorem putDline_linkPa (s : State) (i : Nat) (l : DLine) : (s.putDline i l).linkPa = s.linkPa := rfl
@[simp] theorem putDline_hiloFresh (s : State) (i : Nat) (l : DLine) : (s.putDline i l).hiloFresh = s.hiloFresh := rfl
@[simp] theorem putDline_cp0 (s : State) (i : Nat) (l : DLine) : (s.putDline i l).cp0 = s.cp0 := rfl
@[simp] theorem putDline_timerInt (s : State) (i : Nat) (l : DLine) : (s.putDline i l).timerInt = s.timerInt := rfl
@[simp] theorem putDline_countPhase (s : State) (i : Nat) (l : DLine) : (s.putDline i l).countPhase = s.countPhase := rfl
@[simp] theorem putDline_tlb (s : State) (i : Nat) (l : DLine) : (s.putDline i l).tlb = s.tlb := rfl
@[simp] theorem putDline_fgr (s : State) (i : Nat) (l : DLine) : (s.putDline i l).fgr = s.fgr := rfl
@[simp] theorem putDline_fcr31 (s : State) (i : Nat) (l : DLine) : (s.putDline i l).fcr31 = s.fcr31 := rfl
@[simp] theorem putDline_icache (s : State) (i : Nat) (l : DLine) : (s.putDline i l).icache = s.icache := rfl
@[simp] theorem putDline_dcache (s : State) (i : Nat) (l : DLine) : (s.putDline i l).dcache = sparsePut DLine.zero s.dcache i l := rfl
@[simp] theorem putDline_wbuf (s : State) (i : Nat) (l : DLine) : (s.putDline i l).wbuf = s.wbuf := rfl
@[simp] theorem putDline_mem (s : State) (i : Nat) (l : DLine) : (s.putDline i l).mem = s.mem := rfl
@[simp] theorem putDline_intPins (s : State) (i : Nat) (l : DLine) : (s.putDline i l).intPins = s.intPins := rfl
@[simp] theorem putDline_nmiPin (s : State) (i : Nat) (l : DLine) : (s.putDline i l).nmiPin = s.nmiPin := rfl
@[simp] theorem putDline_intReg (s : State) (i : Nat) (l : DLine) : (s.putDline i l).intReg = s.intReg := rfl
@[simp] theorem putDline_nmiPrev (s : State) (i : Nat) (l : DLine) : (s.putDline i l).nmiPrev = s.nmiPrev := rfl
@[simp] theorem putDline_nmiLatch (s : State) (i : Nat) (l : DLine) : (s.putDline i l).nmiLatch = s.nmiLatch := rfl
@[simp] theorem putDline_standby (s : State) (i : Nat) (l : DLine) : (s.putDline i l).standby = s.standby := rfl
@[simp] theorem putDline_slave (s : State) (i : Nat) (l : DLine) : (s.putDline i l).slave = s.slave := rfl
@[simp] theorem putDline_busWait (s : State) (i : Nat) (l : DLine) : (s.putDline i l).busWait = s.busWait := rfl
@[simp] theorem putDline_busReply (s : State) (i : Nat) (l : DLine) : (s.putDline i l).busReply = s.busReply := rfl
@[simp] theorem putDline_hist (s : State) (i : Nat) (l : DLine) : (s.putDline i l).hist = s.hist := rfl
@[simp] theorem putDline_cfg (s : State) (i : Nat) (l : DLine) : (s.putDline i l).cfg = s.cfg := rfl
@[simp] theorem putDline_inputs (s : State) (i : Nat) (l : DLine) : (s.putDline i l).inputs = s.inputs := rfl
@[simp] theorem putDline_dma (s : State) (i : Nat) (l : DLine) : (s.putDline i l).dma = s.dma := rfl
@[simp] theorem putDline_bus (s : State) (i : Nat) (l : DLine) : (s.putDline i l).bus = s.bus := rfl
@[simp] theorem putDline_free (s : State) (i : Nat) (l : DLine) : (s.putDline i l).free = s.free := rfl
@[simp] theorem putDline_exc (s : State) (i : Nat) (l : DLine) : (s.putDline i l).exc = s.exc := rfl

/-! instruction line replaced -/

@[simp] theorem putIline_gpr (s : State) (i : Nat) (l : ILine) : (s.putIline i l).gpr = s.gpr := rfl
@[simp] theorem putIline_hi (s : State) (i : Nat) (l : ILine) : (s.putIline i l).hi = s.hi := rfl
@[simp] theorem putIline_lo (s : State) (i : Nat) (l : ILine) : (s.putIline i l).lo = s.lo := rfl
@[simp] theorem putIline_pc (s : State) (i : Nat) (l : ILine) : (s.putIline i l).pc = s.pc := rfl
@[simp] theorem putIline_pending (s : State) (i : Nat) (l : ILine) : (s.putIline i l).pending = s.pending := rfl
@[simp] theorem putIline_llbit (s : State) (i : Nat) (l : ILine) : (s.putIline i l).llbit = s.llbit := rfl
@[simp] theorem putIline_linkPa (s : State) (i : Nat) (l : ILine) : (s.putIline i l).linkPa = s.linkPa := rfl
@[simp] theorem putIline_hiloFresh (s : State) (i : Nat) (l : ILine) : (s.putIline i l).hiloFresh = s.hiloFresh := rfl
@[simp] theorem putIline_cp0 (s : State) (i : Nat) (l : ILine) : (s.putIline i l).cp0 = s.cp0 := rfl
@[simp] theorem putIline_timerInt (s : State) (i : Nat) (l : ILine) : (s.putIline i l).timerInt = s.timerInt := rfl
@[simp] theorem putIline_countPhase (s : State) (i : Nat) (l : ILine) : (s.putIline i l).countPhase = s.countPhase := rfl
@[simp] theorem putIline_tlb (s : State) (i : Nat) (l : ILine) : (s.putIline i l).tlb = s.tlb := rfl
@[simp] theorem putIline_fgr (s : State) (i : Nat) (l : ILine) : (s.putIline i l).fgr = s.fgr := rfl
@[simp] theorem putIline_fcr31 (s : State) (i : Nat) (l : ILine) : (s.putIline i l).fcr31 = s.fcr31 := rfl
@[simp] theorem putIline_icache (s : State) (i : Nat) (l : ILine) : (s.putIline i l).icache = sparsePut ILine.zero s.icache i l := rfl
@[simp] theorem putIline_dcache (s : State) (i : Nat) (l : ILine) : (s.putIline i l).dcache = s.dcache := rfl
@[simp] theorem putIline_wbuf (s : State) (i : Nat) (l : ILine) : (s.putIline i l).wbuf = s.wbuf := rfl
@[simp] theorem putIline_mem (s : State) (i : Nat) (l : ILine) : (s.putIline i l).mem = s.mem := rfl
@[simp] theorem putIline_intPins (s : State) (i : Nat) (l : ILine) : (s.putIline i l).intPins = s.intPins := rfl
@[simp] theorem putIline_nmiPin (s : State) (i : Nat) (l : ILine) : (s.putIline i l).nmiPin = s.nmiPin := rfl
@[simp] theorem putIline_intReg (s : State) (i : Nat) (l : ILine) : (s.putIline i l).intReg = s.intReg := rfl
@[simp] theorem putIline_nmiPrev (s : State) (i : Nat) (l : ILine) : (s.putIline i l).nmiPrev = s.nmiPrev := rfl
@[simp] theorem putIline_nmiLatch (s : State) (i : Nat) (l : ILine) : (s.putIline i l).nmiLatch = s.nmiLatch := rfl
@[simp] theorem putIline_standby (s : State) (i : Nat) (l : ILine) : (s.putIline i l).standby = s.standby := rfl
@[simp] theorem putIline_slave (s : State) (i : Nat) (l : ILine) : (s.putIline i l).slave = s.slave := rfl
@[simp] theorem putIline_busWait (s : State) (i : Nat) (l : ILine) : (s.putIline i l).busWait = s.busWait := rfl
@[simp] theorem putIline_busReply (s : State) (i : Nat) (l : ILine) : (s.putIline i l).busReply = s.busReply := rfl
@[simp] theorem putIline_hist (s : State) (i : Nat) (l : ILine) : (s.putIline i l).hist = s.hist := rfl
@[simp] theorem putIline_cfg (s : State) (i : Nat) (l : ILine) : (s.putIline i l).cfg = s.cfg := rfl
@[simp] theorem putIline_inputs (s : State) (i : Nat) (l : ILine) : (s.putIline i l).inputs = s.inputs := rfl
@[simp] theorem putIline_dma (s : State) (i : Nat) (l : ILine) : (s.putIline i l).dma = s.dma := rfl
@[simp] theorem putIline_bus (s : State) (i : Nat) (l : ILine) : (s.putIline i l).bus = s.bus := rfl
@[simp] theorem putIline_free (s : State) (i : Nat) (l : ILine) : (s.putIline i l).free = s.free := rfl
@[simp] theorem putIline_exc (s : State) (i : Nat) (l : ILine) : (s.putIline i l).exc = s.exc := rfl

/-! link broken -/

@[simp] theorem breakLink_gpr (s : State) (i : Nat) : (s.breakLink i).gpr = s.gpr := rfl
@[simp] theorem breakLink_hi (s : State) (i : Nat) : (s.breakLink i).hi = s.hi := rfl
@[simp] theorem breakLink_lo (s : State) (i : Nat) : (s.breakLink i).lo = s.lo := rfl
@[simp] theorem breakLink_pc (s : State) (i : Nat) : (s.breakLink i).pc = s.pc := rfl
@[simp] theorem breakLink_pending (s : State) (i : Nat) : (s.breakLink i).pending = s.pending := rfl
@[simp] theorem breakLink_llbit (s : State) (i : Nat) : (s.breakLink i).llbit = (s.llbit && !s.linked i) := rfl
@[simp] theorem breakLink_linkPa (s : State) (i : Nat) : (s.breakLink i).linkPa = s.linkPa := rfl
@[simp] theorem breakLink_hiloFresh (s : State) (i : Nat) : (s.breakLink i).hiloFresh = s.hiloFresh := rfl
@[simp] theorem breakLink_cp0 (s : State) (i : Nat) : (s.breakLink i).cp0 = s.cp0 := rfl
@[simp] theorem breakLink_timerInt (s : State) (i : Nat) : (s.breakLink i).timerInt = s.timerInt := rfl
@[simp] theorem breakLink_countPhase (s : State) (i : Nat) : (s.breakLink i).countPhase = s.countPhase := rfl
@[simp] theorem breakLink_tlb (s : State) (i : Nat) : (s.breakLink i).tlb = s.tlb := rfl
@[simp] theorem breakLink_fgr (s : State) (i : Nat) : (s.breakLink i).fgr = s.fgr := rfl
@[simp] theorem breakLink_fcr31 (s : State) (i : Nat) : (s.breakLink i).fcr31 = s.fcr31 := rfl
@[simp] theorem breakLink_icache (s : State) (i : Nat) : (s.breakLink i).icache = s.icache := rfl
@[simp] theorem breakLink_dcache (s : State) (i : Nat) : (s.breakLink i).dcache = s.dcache := rfl
@[simp] theorem breakLink_wbuf (s : State) (i : Nat) : (s.breakLink i).wbuf = s.wbuf := rfl
@[simp] theorem breakLink_mem (s : State) (i : Nat) : (s.breakLink i).mem = s.mem := rfl
@[simp] theorem breakLink_intPins (s : State) (i : Nat) : (s.breakLink i).intPins = s.intPins := rfl
@[simp] theorem breakLink_nmiPin (s : State) (i : Nat) : (s.breakLink i).nmiPin = s.nmiPin := rfl
@[simp] theorem breakLink_intReg (s : State) (i : Nat) : (s.breakLink i).intReg = s.intReg := rfl
@[simp] theorem breakLink_nmiPrev (s : State) (i : Nat) : (s.breakLink i).nmiPrev = s.nmiPrev := rfl
@[simp] theorem breakLink_nmiLatch (s : State) (i : Nat) : (s.breakLink i).nmiLatch = s.nmiLatch := rfl
@[simp] theorem breakLink_standby (s : State) (i : Nat) : (s.breakLink i).standby = s.standby := rfl
@[simp] theorem breakLink_slave (s : State) (i : Nat) : (s.breakLink i).slave = s.slave := rfl
@[simp] theorem breakLink_busWait (s : State) (i : Nat) : (s.breakLink i).busWait = s.busWait := rfl
@[simp] theorem breakLink_busReply (s : State) (i : Nat) : (s.breakLink i).busReply = s.busReply := rfl
@[simp] theorem breakLink_hist (s : State) (i : Nat) : (s.breakLink i).hist = s.hist := rfl
@[simp] theorem breakLink_cfg (s : State) (i : Nat) : (s.breakLink i).cfg = s.cfg := rfl
@[simp] theorem breakLink_inputs (s : State) (i : Nat) : (s.breakLink i).inputs = s.inputs := rfl
@[simp] theorem breakLink_dma (s : State) (i : Nat) : (s.breakLink i).dma = s.dma := rfl
@[simp] theorem breakLink_bus (s : State) (i : Nat) : (s.breakLink i).bus = s.bus := rfl
@[simp] theorem breakLink_free (s : State) (i : Nat) : (s.breakLink i).free = s.free := rfl
@[simp] theorem breakLink_exc (s : State) (i : Nat) : (s.breakLink i).exc = s.exc := rfl

/-! floating-point register written -/

@[simp] theorem writeFgr_gpr (s : State) (n : Reg) (v : DWord) : (s.writeFgr n v).gpr = s.gpr := rfl
@[simp] theorem writeFgr_hi (s : State) (n : Reg) (v : DWord) : (s.writeFgr n v).hi = s.hi := rfl
@[simp] theorem writeFgr_lo (s : State) (n : Reg) (v : DWord) : (s.writeFgr n v).lo = s.lo := rfl
@[simp] theorem writeFgr_pc (s : State) (n : Reg) (v : DWord) : (s.writeFgr n v).pc = s.pc := rfl
@[simp] theorem writeFgr_pending (s : State) (n : Reg) (v : DWord) : (s.writeFgr n v).pending = s.pending := rfl
@[simp] theorem writeFgr_llbit (s : State) (n : Reg) (v : DWord) : (s.writeFgr n v).llbit = s.llbit := rfl
@[simp] theorem writeFgr_linkPa (s : State) (n : Reg) (v : DWord) : (s.writeFgr n v).linkPa = s.linkPa := rfl
@[simp] theorem writeFgr_hiloFresh (s : State) (n : Reg) (v : DWord) : (s.writeFgr n v).hiloFresh = s.hiloFresh := rfl
@[simp] theorem writeFgr_cp0 (s : State) (n : Reg) (v : DWord) : (s.writeFgr n v).cp0 = s.cp0 := rfl
@[simp] theorem writeFgr_timerInt (s : State) (n : Reg) (v : DWord) : (s.writeFgr n v).timerInt = s.timerInt := rfl
@[simp] theorem writeFgr_countPhase (s : State) (n : Reg) (v : DWord) : (s.writeFgr n v).countPhase = s.countPhase := rfl
@[simp] theorem writeFgr_tlb (s : State) (n : Reg) (v : DWord) : (s.writeFgr n v).tlb = s.tlb := rfl
@[simp] theorem writeFgr_fgr (s : State) (n : Reg) (v : DWord) : (s.writeFgr n v).fgr = s.fgr.set n.toNat v n.isLt := rfl
@[simp] theorem writeFgr_fcr31 (s : State) (n : Reg) (v : DWord) : (s.writeFgr n v).fcr31 = s.fcr31 := rfl
@[simp] theorem writeFgr_icache (s : State) (n : Reg) (v : DWord) : (s.writeFgr n v).icache = s.icache := rfl
@[simp] theorem writeFgr_dcache (s : State) (n : Reg) (v : DWord) : (s.writeFgr n v).dcache = s.dcache := rfl
@[simp] theorem writeFgr_wbuf (s : State) (n : Reg) (v : DWord) : (s.writeFgr n v).wbuf = s.wbuf := rfl
@[simp] theorem writeFgr_mem (s : State) (n : Reg) (v : DWord) : (s.writeFgr n v).mem = s.mem := rfl
@[simp] theorem writeFgr_intPins (s : State) (n : Reg) (v : DWord) : (s.writeFgr n v).intPins = s.intPins := rfl
@[simp] theorem writeFgr_nmiPin (s : State) (n : Reg) (v : DWord) : (s.writeFgr n v).nmiPin = s.nmiPin := rfl
@[simp] theorem writeFgr_intReg (s : State) (n : Reg) (v : DWord) : (s.writeFgr n v).intReg = s.intReg := rfl
@[simp] theorem writeFgr_nmiPrev (s : State) (n : Reg) (v : DWord) : (s.writeFgr n v).nmiPrev = s.nmiPrev := rfl
@[simp] theorem writeFgr_nmiLatch (s : State) (n : Reg) (v : DWord) : (s.writeFgr n v).nmiLatch = s.nmiLatch := rfl
@[simp] theorem writeFgr_standby (s : State) (n : Reg) (v : DWord) : (s.writeFgr n v).standby = s.standby := rfl
@[simp] theorem writeFgr_slave (s : State) (n : Reg) (v : DWord) : (s.writeFgr n v).slave = s.slave := rfl
@[simp] theorem writeFgr_busWait (s : State) (n : Reg) (v : DWord) : (s.writeFgr n v).busWait = s.busWait := rfl
@[simp] theorem writeFgr_busReply (s : State) (n : Reg) (v : DWord) : (s.writeFgr n v).busReply = s.busReply := rfl
@[simp] theorem writeFgr_hist (s : State) (n : Reg) (v : DWord) : (s.writeFgr n v).hist = s.hist := rfl
@[simp] theorem writeFgr_cfg (s : State) (n : Reg) (v : DWord) : (s.writeFgr n v).cfg = s.cfg := rfl
@[simp] theorem writeFgr_inputs (s : State) (n : Reg) (v : DWord) : (s.writeFgr n v).inputs = s.inputs := rfl
@[simp] theorem writeFgr_dma (s : State) (n : Reg) (v : DWord) : (s.writeFgr n v).dma = s.dma := rfl
@[simp] theorem writeFgr_bus (s : State) (n : Reg) (v : DWord) : (s.writeFgr n v).bus = s.bus := rfl
@[simp] theorem writeFgr_free (s : State) (n : Reg) (v : DWord) : (s.writeFgr n v).free = s.free := rfl
@[simp] theorem writeFgr_exc (s : State) (n : Reg) (v : DWord) : (s.writeFgr n v).exc = s.exc := rfl

/-! Status.CH written -/

@[simp] theorem setCH_gpr (s : State) (h : Bool) : (s.setCH h).gpr = s.gpr := rfl
@[simp] theorem setCH_hi (s : State) (h : Bool) : (s.setCH h).hi = s.hi := rfl
@[simp] theorem setCH_lo (s : State) (h : Bool) : (s.setCH h).lo = s.lo := rfl
@[simp] theorem setCH_pc (s : State) (h : Bool) : (s.setCH h).pc = s.pc := rfl
@[simp] theorem setCH_pending (s : State) (h : Bool) : (s.setCH h).pending = s.pending := rfl
@[simp] theorem setCH_llbit (s : State) (h : Bool) : (s.setCH h).llbit = s.llbit := rfl
@[simp] theorem setCH_linkPa (s : State) (h : Bool) : (s.setCH h).linkPa = s.linkPa := rfl
@[simp] theorem setCH_hiloFresh (s : State) (h : Bool) : (s.setCH h).hiloFresh = s.hiloFresh := rfl
@[simp] theorem setCH_cp0 (s : State) (h : Bool) : (s.setCH h).cp0 = { s.cp0 with status := putBit s.cp0.status 18 h } := rfl
@[simp] theorem setCH_timerInt (s : State) (h : Bool) : (s.setCH h).timerInt = s.timerInt := rfl
@[simp] theorem setCH_countPhase (s : State) (h : Bool) : (s.setCH h).countPhase = s.countPhase := rfl
@[simp] theorem setCH_tlb (s : State) (h : Bool) : (s.setCH h).tlb = s.tlb := rfl
@[simp] theorem setCH_fgr (s : State) (h : Bool) : (s.setCH h).fgr = s.fgr := rfl
@[simp] theorem setCH_fcr31 (s : State) (h : Bool) : (s.setCH h).fcr31 = s.fcr31 := rfl
@[simp] theorem setCH_icache (s : State) (h : Bool) : (s.setCH h).icache = s.icache := rfl
@[simp] theorem setCH_dcache (s : State) (h : Bool) : (s.setCH h).dcache = s.dcache := rfl
@[simp] theorem setCH_wbuf (s : State) (h : Bool) : (s.setCH h).wbuf = s.wbuf := rfl
@[simp] theorem setCH_mem (s : State) (h : Bool) : (s.setCH h).mem = s.mem := rfl
@[simp] theorem setCH_intPins (s : State) (h : Bool) : (s.setCH h).intPins = s.intPins := rfl
@[simp] theorem setCH_nmiPin (s : State) (h : Bool) : (s.setCH h).nmiPin = s.nmiPin := rfl
@[simp] theorem setCH_intReg (s : State) (h : Bool) : (s.setCH h).intReg = s.intReg := rfl
@[simp] theorem setCH_nmiPrev (s : State) (h : Bool) : (s.setCH h).nmiPrev = s.nmiPrev := rfl
@[simp] theorem setCH_nmiLatch (s : State) (h : Bool) : (s.setCH h).nmiLatch = s.nmiLatch := rfl
@[simp] theorem setCH_standby (s : State) (h : Bool) : (s.setCH h).standby = s.standby := rfl
@[simp] theorem setCH_slave (s : State) (h : Bool) : (s.setCH h).slave = s.slave := rfl
@[simp] theorem setCH_busWait (s : State) (h : Bool) : (s.setCH h).busWait = s.busWait := rfl
@[simp] theorem setCH_busReply (s : State) (h : Bool) : (s.setCH h).busReply = s.busReply := rfl
@[simp] theorem setCH_hist (s : State) (h : Bool) : (s.setCH h).hist = s.hist := rfl
@[simp] theorem setCH_cfg (s : State) (h : Bool) : (s.setCH h).cfg = s.cfg := rfl
@[simp] theorem setCH_inputs (s : State) (h : Bool) : (s.setCH h).inputs = s.inputs := rfl
@[simp] theorem setCH_dma (s : State) (h : Bool) : (s.setCH h).dma = s.dma := rfl
@[simp] theorem setCH_bus (s : State) (h : Bool) : (s.setCH h).bus = s.bus := rfl
@[simp] theorem setCH_free (s : State) (h : Bool) : (s.setCH h).free = s.free := rfl
@[simp] theorem setCH_exc (s : State) (h : Bool) : (s.setCH h).exc = s.exc := rfl

/-! an instruction starts -/

@[simp] theorem startInstr_gpr (s : State) : (s.startInstr).gpr = s.gpr := rfl
@[simp] theorem startInstr_hi (s : State) : (s.startInstr).hi = s.hi := rfl
@[simp] theorem startInstr_lo (s : State) : (s.startInstr).lo = s.lo := rfl
@[simp] theorem startInstr_pc (s : State) : (s.startInstr).pc = s.pc := rfl
@[simp] theorem startInstr_pending (s : State) : (s.startInstr).pending = s.pending := rfl
@[simp] theorem startInstr_llbit (s : State) : (s.startInstr).llbit = s.llbit := rfl
@[simp] theorem startInstr_linkPa (s : State) : (s.startInstr).linkPa = s.linkPa := rfl
@[simp] theorem startInstr_hiloFresh (s : State) : (s.startInstr).hiloFresh = s.hiloFresh := rfl
@[simp] theorem startInstr_cp0 (s : State) : (s.startInstr).cp0 = s.cp0 := rfl
@[simp] theorem startInstr_timerInt (s : State) : (s.startInstr).timerInt = s.timerInt := rfl
@[simp] theorem startInstr_countPhase (s : State) : (s.startInstr).countPhase = s.countPhase := rfl
@[simp] theorem startInstr_tlb (s : State) : (s.startInstr).tlb = s.tlb := rfl
@[simp] theorem startInstr_fgr (s : State) : (s.startInstr).fgr = s.fgr := rfl
@[simp] theorem startInstr_fcr31 (s : State) : (s.startInstr).fcr31 = s.fcr31 := rfl
@[simp] theorem startInstr_icache (s : State) : (s.startInstr).icache = s.icache := rfl
@[simp] theorem startInstr_dcache (s : State) : (s.startInstr).dcache = s.dcache := rfl
@[simp] theorem startInstr_wbuf (s : State) : (s.startInstr).wbuf = s.wbuf := rfl
@[simp] theorem startInstr_mem (s : State) : (s.startInstr).mem = s.mem := rfl
@[simp] theorem startInstr_intPins (s : State) : (s.startInstr).intPins = s.intPins := rfl
@[simp] theorem startInstr_nmiPin (s : State) : (s.startInstr).nmiPin = s.nmiPin := rfl
@[simp] theorem startInstr_intReg (s : State) : (s.startInstr).intReg = s.intReg := rfl
@[simp] theorem startInstr_nmiPrev (s : State) : (s.startInstr).nmiPrev = s.nmiPrev := rfl
@[simp] theorem startInstr_nmiLatch (s : State) : (s.startInstr).nmiLatch = s.nmiLatch := rfl
@[simp] theorem startInstr_standby (s : State) : (s.startInstr).standby = s.standby := rfl
@[simp] theorem startInstr_slave (s : State) : (s.startInstr).slave = s.slave := rfl
@[simp] theorem startInstr_busWait (s : State) : (s.startInstr).busWait = s.busWait := rfl
@[simp] theorem startInstr_busReply (s : State) : (s.startInstr).busReply = s.busReply := rfl
@[simp] theorem startInstr_hist (s : State) : (s.startInstr).hist = ageHazards s.hist := rfl
@[simp] theorem startInstr_cfg (s : State) : (s.startInstr).cfg = s.cfg := rfl
@[simp] theorem startInstr_inputs (s : State) : (s.startInstr).inputs = s.inputs := rfl
@[simp] theorem startInstr_dma (s : State) : (s.startInstr).dma = s.dma := rfl
@[simp] theorem startInstr_bus (s : State) : (s.startInstr).bus = s.bus := rfl
@[simp] theorem startInstr_free (s : State) : (s.startInstr).free = s.free := rfl
@[simp] theorem startInstr_exc (s : State) : (s.startInstr).exc = s.exc := rfl

/-! memory about to be written -/

@[simp] theorem noteCode_gpr (s : State) (pa : PAddr) (n : Nat) : (s.noteCode pa n).gpr = s.gpr := rfl
@[simp] theorem noteCode_hi (s : State) (pa : PAddr) (n : Nat) : (s.noteCode pa n).hi = s.hi := rfl
@[simp] theorem noteCode_lo (s : State) (pa : PAddr) (n : Nat) : (s.noteCode pa n).lo = s.lo := rfl
@[simp] theorem noteCode_pc (s : State) (pa : PAddr) (n : Nat) : (s.noteCode pa n).pc = s.pc := rfl
@[simp] theorem noteCode_pending (s : State) (pa : PAddr) (n : Nat) : (s.noteCode pa n).pending = s.pending := rfl
@[simp] theorem noteCode_llbit (s : State) (pa : PAddr) (n : Nat) : (s.noteCode pa n).llbit = s.llbit := rfl
@[simp] theorem noteCode_linkPa (s : State) (pa : PAddr) (n : Nat) : (s.noteCode pa n).linkPa = s.linkPa := rfl
@[simp] theorem noteCode_hiloFresh (s : State) (pa : PAddr) (n : Nat) : (s.noteCode pa n).hiloFresh = s.hiloFresh := rfl
@[simp] theorem noteCode_cp0 (s : State) (pa : PAddr) (n : Nat) : (s.noteCode pa n).cp0 = s.cp0 := rfl
@[simp] theorem noteCode_timerInt (s : State) (pa : PAddr) (n : Nat) : (s.noteCode pa n).timerInt = s.timerInt := rfl
@[simp] theorem noteCode_countPhase (s : State) (pa : PAddr) (n : Nat) : (s.noteCode pa n).countPhase = s.countPhase := rfl
@[simp] theorem noteCode_tlb (s : State) (pa : PAddr) (n : Nat) : (s.noteCode pa n).tlb = s.tlb := rfl
@[simp] theorem noteCode_fgr (s : State) (pa : PAddr) (n : Nat) : (s.noteCode pa n).fgr = s.fgr := rfl
@[simp] theorem noteCode_fcr31 (s : State) (pa : PAddr) (n : Nat) : (s.noteCode pa n).fcr31 = s.fcr31 := rfl
@[simp] theorem noteCode_icache (s : State) (pa : PAddr) (n : Nat) : (s.noteCode pa n).icache = s.icache := rfl
@[simp] theorem noteCode_dcache (s : State) (pa : PAddr) (n : Nat) : (s.noteCode pa n).dcache = s.dcache := rfl
@[simp] theorem noteCode_wbuf (s : State) (pa : PAddr) (n : Nat) : (s.noteCode pa n).wbuf = s.wbuf := rfl
@[simp] theorem noteCode_mem (s : State) (pa : PAddr) (n : Nat) : (s.noteCode pa n).mem = s.mem := rfl
@[simp] theorem noteCode_intPins (s : State) (pa : PAddr) (n : Nat) : (s.noteCode pa n).intPins = s.intPins := rfl
@[simp] theorem noteCode_nmiPin (s : State) (pa : PAddr) (n : Nat) : (s.noteCode pa n).nmiPin = s.nmiPin := rfl
@[simp] theorem noteCode_intReg (s : State) (pa : PAddr) (n : Nat) : (s.noteCode pa n).intReg = s.intReg := rfl
@[simp] theorem noteCode_nmiPrev (s : State) (pa : PAddr) (n : Nat) : (s.noteCode pa n).nmiPrev = s.nmiPrev := rfl
@[simp] theorem noteCode_nmiLatch (s : State) (pa : PAddr) (n : Nat) : (s.noteCode pa n).nmiLatch = s.nmiLatch := rfl
@[simp] theorem noteCode_standby (s : State) (pa : PAddr) (n : Nat) : (s.noteCode pa n).standby = s.standby := rfl
@[simp] theorem noteCode_slave (s : State) (pa : PAddr) (n : Nat) : (s.noteCode pa n).slave = s.slave := rfl
@[simp] theorem noteCode_busWait (s : State) (pa : PAddr) (n : Nat) : (s.noteCode pa n).busWait = s.busWait := rfl
@[simp] theorem noteCode_busReply (s : State) (pa : PAddr) (n : Nat) : (s.noteCode pa n).busReply = s.busReply := rfl
@[simp] theorem noteCode_hist (s : State) (pa : PAddr) (n : Nat) : (s.noteCode pa n).hist = { age := 0, what := .code pa n (memLine s.pendingMem pa) } :: s.hist := rfl
@[simp] theorem noteCode_cfg (s : State) (pa : PAddr) (n : Nat) : (s.noteCode pa n).cfg = s.cfg := rfl
@[simp] theorem noteCode_inputs (s : State) (pa : PAddr) (n : Nat) : (s.noteCode pa n).inputs = s.inputs := rfl
@[simp] theorem noteCode_dma (s : State) (pa : PAddr) (n : Nat) : (s.noteCode pa n).dma = s.dma := rfl
@[simp] theorem noteCode_bus (s : State) (pa : PAddr) (n : Nat) : (s.noteCode pa n).bus = s.bus := rfl
@[simp] theorem noteCode_free (s : State) (pa : PAddr) (n : Nat) : (s.noteCode pa n).free = s.free := rfl
@[simp] theorem noteCode_exc (s : State) (pa : PAddr) (n : Nat) : (s.noteCode pa n).exc = s.exc := rfl

/-! NMI edge latched -/

@[simp] theorem latchNmi_gpr (s : State) : (s.latchNmi).gpr = s.gpr := rfl
@[simp] theorem latchNmi_hi (s : State) : (s.latchNmi).hi = s.hi := rfl
@[simp] theorem latchNmi_lo (s : State) : (s.latchNmi).lo = s.lo := rfl
@[simp] theorem latchNmi_pc (s : State) : (s.latchNmi).pc = s.pc := rfl
@[simp] theorem latchNmi_pending (s : State) : (s.latchNmi).pending = s.pending := rfl
@[simp] theorem latchNmi_llbit (s : State) : (s.latchNmi).llbit = s.llbit := rfl
@[simp] theorem latchNmi_linkPa (s : State) : (s.latchNmi).linkPa = s.linkPa := rfl
@[simp] theorem latchNmi_hiloFresh (s : State) : (s.latchNmi).hiloFresh = s.hiloFresh := rfl
@[simp] theorem latchNmi_cp0 (s : State) : (s.latchNmi).cp0 = s.cp0 := rfl
@[simp] theorem latchNmi_timerInt (s : State) : (s.latchNmi).timerInt = s.timerInt := rfl
@[simp] theorem latchNmi_countPhase (s : State) : (s.latchNmi).countPhase = s.countPhase := rfl
@[simp] theorem latchNmi_tlb (s : State) : (s.latchNmi).tlb = s.tlb := rfl
@[simp] theorem latchNmi_fgr (s : State) : (s.latchNmi).fgr = s.fgr := rfl
@[simp] theorem latchNmi_fcr31 (s : State) : (s.latchNmi).fcr31 = s.fcr31 := rfl
@[simp] theorem latchNmi_icache (s : State) : (s.latchNmi).icache = s.icache := rfl
@[simp] theorem latchNmi_dcache (s : State) : (s.latchNmi).dcache = s.dcache := rfl
@[simp] theorem latchNmi_wbuf (s : State) : (s.latchNmi).wbuf = s.wbuf := rfl
@[simp] theorem latchNmi_mem (s : State) : (s.latchNmi).mem = s.mem := rfl
@[simp] theorem latchNmi_intPins (s : State) : (s.latchNmi).intPins = s.intPins := rfl
@[simp] theorem latchNmi_nmiPin (s : State) : (s.latchNmi).nmiPin = s.nmiPin := rfl
@[simp] theorem latchNmi_intReg (s : State) : (s.latchNmi).intReg = s.intReg := rfl
@[simp] theorem latchNmi_nmiPrev (s : State) : (s.latchNmi).nmiPrev = s.nmiLevel := rfl
@[simp] theorem latchNmi_nmiLatch (s : State) : (s.latchNmi).nmiLatch = (s.nmiLatch || (s.nmiLevel && !s.nmiPrev)) := rfl
@[simp] theorem latchNmi_standby (s : State) : (s.latchNmi).standby = s.standby := rfl
@[simp] theorem latchNmi_slave (s : State) : (s.latchNmi).slave = s.slave := rfl
@[simp] theorem latchNmi_busWait (s : State) : (s.latchNmi).busWait = s.busWait := rfl
@[simp] theorem latchNmi_busReply (s : State) : (s.latchNmi).busReply = s.busReply := rfl
@[simp] theorem latchNmi_hist (s : State) : (s.latchNmi).hist = s.hist := rfl
@[simp] theorem latchNmi_cfg (s : State) : (s.latchNmi).cfg = s.cfg := rfl
@[simp] theorem latchNmi_inputs (s : State) : (s.latchNmi).inputs = s.inputs := rfl
@[simp] theorem latchNmi_dma (s : State) : (s.latchNmi).dma = s.dma := rfl
@[simp] theorem latchNmi_bus (s : State) : (s.latchNmi).bus = s.bus := rfl
@[simp] theorem latchNmi_free (s : State) : (s.latchNmi).free = s.free := rfl
@[simp] theorem latchNmi_exc (s : State) : (s.latchNmi).exc = s.exc := rfl

/-! external request over -/

@[simp] theorem extDone_gpr (s : State) : (s.extDone).gpr = s.gpr := rfl
@[simp] theorem extDone_hi (s : State) : (s.extDone).hi = s.hi := rfl
@[simp] theorem extDone_lo (s : State) : (s.extDone).lo = s.lo := rfl
@[simp] theorem extDone_pc (s : State) : (s.extDone).pc = s.pc := rfl
@[simp] theorem extDone_pending (s : State) : (s.extDone).pending = s.pending := rfl
@[simp] theorem extDone_llbit (s : State) : (s.extDone).llbit = s.llbit := rfl
@[simp] theorem extDone_linkPa (s : State) : (s.extDone).linkPa = s.linkPa := rfl
@[simp] theorem extDone_hiloFresh (s : State) : (s.extDone).hiloFresh = s.hiloFresh := rfl
@[simp] theorem extDone_cp0 (s : State) : (s.extDone).cp0 = s.cp0 := rfl
@[simp] theorem extDone_timerInt (s : State) : (s.extDone).timerInt = s.timerInt := rfl
@[simp] theorem extDone_countPhase (s : State) : (s.extDone).countPhase = s.countPhase := rfl
@[simp] theorem extDone_tlb (s : State) : (s.extDone).tlb = s.tlb := rfl
@[simp] theorem extDone_fgr (s : State) : (s.extDone).fgr = s.fgr := rfl
@[simp] theorem extDone_fcr31 (s : State) : (s.extDone).fcr31 = s.fcr31 := rfl
@[simp] theorem extDone_icache (s : State) : (s.extDone).icache = s.icache := rfl
@[simp] theorem extDone_dcache (s : State) : (s.extDone).dcache = s.dcache := rfl
@[simp] theorem extDone_wbuf (s : State) : (s.extDone).wbuf = s.wbuf := rfl
@[simp] theorem extDone_mem (s : State) : (s.extDone).mem = s.mem := rfl
@[simp] theorem extDone_intPins (s : State) : (s.extDone).intPins = s.intPins := rfl
@[simp] theorem extDone_nmiPin (s : State) : (s.extDone).nmiPin = s.nmiPin := rfl
@[simp] theorem extDone_intReg (s : State) : (s.extDone).intReg = s.intReg := rfl
@[simp] theorem extDone_nmiPrev (s : State) : (s.extDone).nmiPrev = s.nmiPrev := rfl
@[simp] theorem extDone_nmiLatch (s : State) : (s.extDone).nmiLatch = s.nmiLatch := rfl
@[simp] theorem extDone_standby (s : State) : (s.extDone).standby = s.standby := rfl
@[simp] theorem extDone_slave (s : State) : (s.extDone).slave = (s.busWait.isSome && s.busReply.isNone) := rfl
@[simp] theorem extDone_busWait (s : State) : (s.extDone).busWait = s.busWait := rfl
@[simp] theorem extDone_busReply (s : State) : (s.extDone).busReply = s.busReply := rfl
@[simp] theorem extDone_hist (s : State) : (s.extDone).hist = s.hist := rfl
@[simp] theorem extDone_cfg (s : State) : (s.extDone).cfg = s.cfg := rfl
@[simp] theorem extDone_inputs (s : State) : (s.extDone).inputs = s.inputs := rfl
@[simp] theorem extDone_dma (s : State) : (s.extDone).dma = s.dma := rfl
@[simp] theorem extDone_bus (s : State) : (s.extDone).bus = s.bus := rfl
@[simp] theorem extDone_free (s : State) : (s.extDone).free = s.free := rfl
@[simp] theorem extDone_exc (s : State) : (s.extDone).exc = s.exc := rfl

/-! Random steps -/

@[simp] theorem stepRandom_gpr (s : State) : (s.stepRandom).gpr = s.gpr := rfl
@[simp] theorem stepRandom_hi (s : State) : (s.stepRandom).hi = s.hi := rfl
@[simp] theorem stepRandom_lo (s : State) : (s.stepRandom).lo = s.lo := rfl
@[simp] theorem stepRandom_pc (s : State) : (s.stepRandom).pc = s.pc := rfl
@[simp] theorem stepRandom_pending (s : State) : (s.stepRandom).pending = s.pending := rfl
@[simp] theorem stepRandom_llbit (s : State) : (s.stepRandom).llbit = s.llbit := rfl
@[simp] theorem stepRandom_linkPa (s : State) : (s.stepRandom).linkPa = s.linkPa := rfl
@[simp] theorem stepRandom_hiloFresh (s : State) : (s.stepRandom).hiloFresh = s.hiloFresh := rfl
@[simp] theorem stepRandom_timerInt (s : State) : (s.stepRandom).timerInt = s.timerInt := rfl
@[simp] theorem stepRandom_countPhase (s : State) : (s.stepRandom).countPhase = s.countPhase := rfl
@[simp] theorem stepRandom_tlb (s : State) : (s.stepRandom).tlb = s.tlb := rfl
@[simp] theorem stepRandom_fgr (s : State) : (s.stepRandom).fgr = s.fgr := rfl
@[simp] theorem stepRandom_fcr31 (s : State) : (s.stepRandom).fcr31 = s.fcr31 := rfl
@[simp] theorem stepRandom_icache (s : State) : (s.stepRandom).icache = s.icache := rfl
@[simp] theorem stepRandom_dcache (s : State) : (s.stepRandom).dcache = s.dcache := rfl
@[simp] theorem stepRandom_wbuf (s : State) : (s.stepRandom).wbuf = s.wbuf := rfl
@[simp] theorem stepRandom_mem (s : State) : (s.stepRandom).mem = s.mem := rfl
@[simp] theorem stepRandom_intPins (s : State) : (s.stepRandom).intPins = s.intPins := rfl
@[simp] theorem stepRandom_nmiPin (s : State) : (s.stepRandom).nmiPin = s.nmiPin := rfl
@[simp] theorem stepRandom_intReg (s : State) : (s.stepRandom).intReg = s.intReg := rfl
@[simp] theorem stepRandom_nmiPrev (s : State) : (s.stepRandom).nmiPrev = s.nmiPrev := rfl
@[simp] theorem stepRandom_nmiLatch (s : State) : (s.stepRandom).nmiLatch = s.nmiLatch := rfl
@[simp] theorem stepRandom_standby (s : State) : (s.stepRandom).standby = s.standby := rfl
@[simp] theorem stepRandom_slave (s : State) : (s.stepRandom).slave = s.slave := rfl
@[simp] theorem stepRandom_busWait (s : State) : (s.stepRandom).busWait = s.busWait := rfl
@[simp] theorem stepRandom_busReply (s : State) : (s.stepRandom).busReply = s.busReply := rfl
@[simp] theorem stepRandom_hist (s : State) : (s.stepRandom).hist = s.hist := rfl
@[simp] theorem stepRandom_cfg (s : State) : (s.stepRandom).cfg = s.cfg := rfl
@[simp] theorem stepRandom_inputs (s : State) : (s.stepRandom).inputs = s.inputs := rfl
@[simp] theorem stepRandom_dma (s : State) : (s.stepRandom).dma = s.dma := rfl
@[simp] theorem stepRandom_bus (s : State) : (s.stepRandom).bus = s.bus := rfl
@[simp] theorem stepRandom_free (s : State) : (s.stepRandom).free = s.free := rfl
@[simp] theorem stepRandom_exc (s : State) : (s.stepRandom).exc = s.exc := rfl

end Sys2Proof.Machine
end

