-- ==== Sys2Proof/Laws/Bus.lean ====
section
/-! SUPPORT. The system interface: lanes and memory order, what a response of memory brings, and what draining the
write buffer and reading do where the machine is quiet. -/
namespace Sys2Proof.Machine

/-! ### Lanes, bytes and doublewords -/

/-- A field in the lower part of a concatenation. -/
theorem extract_append_low {m n : Nat} (a : BitVec m) (b : BitVec n) {i k : Nat} (h : i + k ≤ n) :
    (a ++ b).extractLsb' i k = b.extractLsb' i k := by
  apply BitVec.eq_of_getLsbD_eq
  intro j hj
  have : i + j < n := by omega
  simp [hj, BitVec.getLsbD_append, this]

/-- A field in the upper part of a concatenation. -/
theorem extract_append_high {m n : Nat} (a : BitVec m) (b : BitVec n) {i k : Nat} (h : n ≤ i) :
    (a ++ b).extractLsb' i k = a.extractLsb' (i - n) k := by
  apply BitVec.eq_of_getLsbD_eq
  intro j hj
  have h1 : ¬ i + j < n := by omega
  have h2 : i + j - n = i - n + j := by omega
  simp [hj, BitVec.getLsbD_append, h1, h2]

/-- A lane of a doubleword built from lanes. -/
theorem lane_ofLanes (f : Nat → Byte) {j : Nat} (hj : j < 8) : lane (ofLanes f) j = f j := by
  have h : j = 0 ∨ j = 1 ∨ j = 2 ∨ j = 3 ∨ j = 4 ∨ j = 5 ∨ j = 6 ∨ j = 7 := by omega
  have self : ∀ b : Byte, b.extractLsb' 0 8 = b := by intro b; simp
  unfold lane ofLanes
  rcases h with rfl | rfl | rfl | rfl | rfl | rfl | rfl | rfl <;>
    (repeat rw [extract_append_high _ _ (by decide)]) <;>
    (try rw [extract_append_low _ _ (by decide)]) <;> exact self _

/-- A doubleword is what its lanes are. -/
theorem eq_of_lanes {d e : DWord} (h : ∀ j < 8, lane d j = lane e j) : d = e := by
  apply BitVec.eq_of_getLsbD_eq
  intro i hi
  have := congrArg (fun b : Byte => b.getLsbD (i % 8)) (h (i / 8) (by omega))
  have h8 : i % 8 < 8 := Nat.mod_lt _ (by decide)
  have he : 8 * (i / 8) + i % 8 = i := Nat.div_add_mod i 8
  simpa [lane, h8, he] using this

/-- The two numberings of the bytes of a doubleword. -/
theorem laneOf_lt (be : Bool) {j : Nat} (hj : j < 8) : laneOf be j < 8 := by
  unfold laneOf; split <;> omega

/-- Going there and back. -/
theorem laneOf_laneOf (be : Bool) {j : Nat} (hj : j < 8) : laneOf be (laneOf be j) = j := by
  unfold laneOf; split <;> omega

/-- A byte of a doubleword in memory order. -/
theorem lane_memOrder (be : Bool) (d : DWord) {j : Nat} (hj : j < 8) :
    lane (memOrder be d) j = lane d (laneOf be j) := lane_ofLanes _ hj

/-- Memory order is its own inverse. -/
@[simp] theorem memOrder_memOrder (be : Bool) (d : DWord) : memOrder be (memOrder be d) = d := by
  apply eq_of_lanes
  intro j hj
  rw [lane_memOrder be _ hj, lane_memOrder be _ (laneOf_lt be hj), laneOf_laneOf be hj]

/-- A byte of a line built from doublewords. -/
theorem lineByte_ofDwords (be : Bool) (f : Nat → DWord) {k : Nat} (hk : k < 32) :
    lineByte (ofDwords be f) k = lane (f (k / 8)) (laneOf be (k % 8)) := by
  have h8 : k % 8 < 8 := Nat.mod_lt _ (by decide)
  rw [← lane_memOrder be _ h8]
  have h : k / 8 = 0 ∨ k / 8 = 1 ∨ k / 8 = 2 ∨ k / 8 = 3 := by omega
  unfold lineByte ofDwords lane
  rcases h with h | h | h | h
  · rw [extract_append_low _ _ (by omega), h, show 8 * k = 8 * (k % 8) by omega]
  · rw [extract_append_high _ _ (by omega), extract_append_low _ _ (by omega), h,
      show 8 * k - 64 = 8 * (k % 8) by omega]
  · rw [extract_append_high _ _ (by omega), extract_append_high _ _ (by omega), extract_append_low _ _ (by omega), h,
      show 8 * k - 64 - 64 = 8 * (k % 8) by omega]
  · rw [extract_append_high _ _ (by omega), extract_append_high _ _ (by omega), extract_append_high _ _ (by omega), h,
      show 8 * k - 64 - 64 - 64 = 8 * (k % 8) by omega]

/-- A byte of memory in its lane (20_memory R143). -/
theorem lane_memDword (be : Bool) (mem : List Host.Cell) (pa : PAddr) {j : Nat} (hj : j < 8) :
    lane (memDword be mem pa) j = Memory.read mem (pa.toNat / 8 * 8 + laneOf be j) := by
  unfold memDword
  rw [lane_ofLanes _ hj]

/-! ### Bits set one by one -/

/-- A bit after one bit was set. -/
theorem getLsbD_putBit {n : Nat} (v : BitVec n) {i : Nat} (hi : i < n) (b : Bool) (j : Nat) :
    (putBit v i b).getLsbD j = if j = i then b else v.getLsbD j := by
  unfold putBit
  by_cases h : j = i
  · subst h; cases b <;> simp [hi]
  · have h' : ¬ i = j := fun e => h e.symm
    cases b <;> simp [h, h', BitVec.getLsbD_twoPow]; exact fun hv => BitVec.lt_of_getLsbD hv

/-- A bit after the bits below `m` were set one by one. -/
theorem getLsbD_foldl_putBit {n : Nat} (f : Nat → Bool) (v : BitVec n) {m : Nat} (hm : m ≤ n) (j : Nat) :
    ((List.range m).foldl (fun p k => putBit p k (f k)) v).getLsbD j = if j < m then f j else v.getLsbD j := by
  induction m with
  | zero => simp
  | succ m ih =>
    rw [List.range_succ, List.foldl_append, List.foldl_cons, List.foldl_nil, getLsbD_putBit _ (by omega),
      ih (by omega)]
    by_cases h : j = m
    · simp [h]
    · by_cases h1 : j < m
      · simp [h, h1, Nat.lt_succ_of_lt h1]
      · have : ¬ j < m + 1 := by omega
        simp [h, h1, this]

/-- The parity of a byte of a line. -/
theorem byteParities_getLsbD (d : LineData) {k : Nat} (hk : k < 32) :
    (byteParities d).getLsbD k = parity (lineByte d k) := by
  unfold byteParities
  rw [getLsbD_foldl_putBit _ _ (by omega), if_pos hk]

/-- A line whose every parity bit is right has no error. -/
theorem lineErrs_zero {d : LineData} {par : BitVec 32} (h : ∀ k < 32, par.getLsbD k = parity (lineByte d k)) :
    lineErrs d par = 0 := by
  have e : par = byteParities d := by
    apply BitVec.eq_of_getLsbD_eq
    intro i hi
    rw [h i hi, byteParities_getLsbD d hi]
  subst e
  unfold lineErrs
  apply BitVec.eq_of_getLsbD_eq
  intro i hi
  rw [getLsbD_foldl_putBit _ _ (by omega)]
  simp

/-! ### Responses of memory -/

/-- The check bit of a lane. -/
theorem checkBits_getLsbD (d : DWord) {j : Nat} (hj : j < 8) : (checkBits d).getLsbD j = parity (lane d j) := by
  unfold checkBits
  rw [getLsbD_foldl_putBit _ _ (by omega), if_pos hj]

/-- The parity bit of a byte, in memory order. -/
theorem bitOrder_getLsbD (be : Bool) (v : BitVec 8) {j : Nat} (hj : j < 8) :
    (bitOrder be v).getLsbD j = v.getLsbD (laneOf be j) := by
  unfold bitOrder
  rw [getLsbD_foldl_putBit _ _ (by omega), if_pos hj]

/-- Data cycle `k` of a block read from memory brings a doubleword of the line with good parity. -/
theorem response_cycle (s : State) (mem : List Host.Cell) (pa : PAddr) {k : Nat} (hk : k < 4) :
    cycleAt (s.response none mem true pa) k =
      respCycle none (k = 3) (memDword s.cfg.bigEndian mem
        (pa.extractLsb' 5 31 ++ (pa.extractLsb' 3 2 ^^^ BitVec.ofNat 2 k) ++ (0 : BitVec 3))) := by
  have h : k = 0 ∨ k = 1 ∨ k = 2 ∨ k = 3 := by omega
  rcases h with rfl | rfl | rfl | rfl <;> rfl

/-- The address of doubleword `j` of the line. -/
theorem dword_addr (pa : PAddr) {j : Nat} (hj : j < 4) :
    (pa.extractLsb' 5 31 ++ BitVec.ofNat 2 j ++ (0 : BitVec 3)).toNat = pa.toNat / 32 * 32 + 8 * j := by
  have h1 : pa.toNat < 2 ^ 36 := pa.isLt
  rw [BitVec.toNat_append, BitVec.toNat_append]
  simp only [BitVec.extractLsb'_toNat, BitVec.toNat_ofNat, Nat.shiftRight_eq_div_pow]
  rw [← Nat.shiftLeft_add_eq_or_of_lt (by omega), ← Nat.shiftLeft_add_eq_or_of_lt (by omega)]
  simp only [Nat.shiftLeft_eq]
  show _ + (0#3).toNat = _
  simp only [BitVec.toNat_ofNat]
  omega

/-- Doubleword `j` of the line comes in the cycle that `subblock` says (61_system_interface R790). -/
theorem response_dword (s : State) (mem : List Host.Cell) (pa : PAddr) {j : Nat} (hj : j < 4) :
    cycleAt (s.response none mem true pa) (subblock (pa.extractLsb' 3 2) j) =
      respCycle none (subblock (pa.extractLsb' 3 2) j = 3) (memDword s.cfg.bigEndian mem
        (pa.extractLsb' 5 31 ++ BitVec.ofNat 2 j ++ (0 : BitVec 3))) := by
  have back : ∀ (b : BitVec 2) (j : Nat), j < 4 → b ^^^ BitVec.ofNat 2 (subblock b j) = BitVec.ofNat 2 j := by
    intro b j hj; apply BitVec.eq_of_toNat_eq; simp [subblock]
  rw [response_cycle s mem pa (BitVec.isLt _), back _ _ hj]

/-- The line a block read brings from memory is the line of memory. -/
theorem lineByte_response (s : State) (mem : List Host.Cell) (pa : PAddr) {k : Nat} (hk : k < 32) :
    lineByte (respLine s.cfg.bigEndian (pa.extractLsb' 3 2) (s.response none mem true pa)) k =
      Memory.read mem (pa.toNat / 32 * 32 + k) := by
  have h8 : k % 8 < 8 := Nat.mod_lt _ (by decide)
  unfold respLine
  rw [lineByte_ofDwords _ _ hk, response_dword s mem pa (by omega)]
  show lane (memDword _ _ _) _ = _
  rw [lane_memDword _ _ _ (laneOf_lt _ h8), laneOf_laneOf _ h8, dword_addr pa (by omega)]
  congr 1
  omega

/-- Its parity is good. -/
theorem respPar_response (s : State) (mem : List Host.Cell) (pa : PAddr) {k : Nat} (hk : k < 32) :
    (respPar s.cfg.bigEndian (pa.extractLsb' 3 2) (s.response none mem true pa)).getLsbD k =
      parity (lineByte (respLine s.cfg.bigEndian (pa.extractLsb' 3 2) (s.response none mem true pa)) k) := by
  have h8 : k % 8 < 8 := Nat.mod_lt _ (by decide)
  have hp : (cycleAt (s.response none mem true pa) (subblock (pa.extractLsb' 3 2) (k / 8))).par =
      checkBits (cycleAt (s.response none mem true pa) (subblock (pa.extractLsb' 3 2) (k / 8))).data := by
    rw [response_dword s mem pa (by omega)]
    simp [DataCycle.par, respCycle]
  unfold respPar respLine
  rw [getLsbD_foldl_putBit _ _ (by omega), if_pos hk, hp, lineByte_ofDwords _ _ hk,
    checkBits_getLsbD _ (laneOf_lt _ h8)]

/-- A response of memory is not erroneous. -/
theorem respError_response (s : State) (mem : List Host.Cell) (block : Bool) (pa : PAddr) :
    respError (s.response none mem block pa) = false := by
  have h : ∀ (b : Bool) (d : DWord), idErroneous (respCycle none b d).id = false := by
    intro b d; cases b <;> simp [idErroneous, respCycle, readId]
  cases block <;> exact h _ _

/-- A response of memory has good parity. -/
theorem respBad_response (s : State) (mem : List Host.Cell) (block : Bool) (pa : PAddr) :
    respBad (s.response none mem block pa) = false := by
  have h : ∀ (b : Bool) (d : DWord), (respCycle none b d).bad = false := by
    intro b d; unfold DataCycle.bad respCycle; simp
  cases block <;> exact h _ _

/-- What a read of a doubleword brings from memory. -/
theorem dword_response (s : State) (mem : List Host.Cell) (pa : PAddr) :
    (cycleAt (s.response none mem false pa) 0).data = memDword s.cfg.bigEndian mem pa := rfl

/-- What memory answers depends on memory and the byte order alone. -/
theorem response_memory {s u : State} (h : u.cfg = s.cfg) (mem : List Host.Cell) (block : Bool) (pa : PAddr) :
    u.response none mem block pa = s.response none mem block pa := by
  simp [State.response, State.respDword, h]

/-! ### Where the machine is quiet -/

/-- A request while no other master writes. -/
theorem issue_quiet {s : State} (h : s.dma = []) (r : BusReq) : s.issue r = { s with bus := r :: s.bus } := by
  cases s; simp_all [State.issue, storeEach]

/-- Draining a buffer of writes to memory: they all reach memory, in order, and are put on the bus. -/
theorem sendAll_quiet (l : List WEntry) (s : State) (hd : s.dma = []) (hl : ∀ e ∈ l, s.cfg.kindOf e = none) :
    ∃ bus, State.sendAll l s = .ok () { s with
      bus := bus
      mem := l.foldl (init := s.mem) fun m e =>
        if s.cfg.takes e then e.apply s.cfg.bigEndian m else m } := by
  induction l generalizing s with
  | nil => exact ⟨s.bus, rfl⟩
  | cons e t ih =>
    have hk := hl e (List.mem_cons_self ..)
    have hs : s.cfg.takes e = true := by unfold Params.takes Params.storesAt; rw [show s.cfg.kindAt _ _ = none from hk]
    have h1 : s.sendWrite e = .ok () { s with
        bus := s.requestOf e :: s.bus, mem := e.apply s.cfg.bigEndian s.mem } := by
      simp [State.sendWrite, hk, hs, issue_quiet hd]
    obtain ⟨b, hb⟩ := ih { s with bus := s.requestOf e :: s.bus, mem := e.apply s.cfg.bigEndian s.mem } hd
      (fun x hx => hl x (List.mem_cons_of_mem _ hx))
    refine ⟨b, ?_⟩
    rw [State.sendAll, h1]
    simp only [Res.bind]
    rw [hb]
    simp [hs]

/-- The write buffer is empty afterwards and memory is as it was to become (20_memory R163). -/
theorem drain_quiet {s : State} (h : s.quiet) :
    ∃ bus, s.drain = .ok () { s with wbuf := [], bus := bus, mem := s.settledMem } :=
  sendAll_quiet s.wbuf { s with wbuf := [] } h.2.1 h.1

/-- A read that is no instruction fetch, of memory: the buffer is flushed, the request is sent, memory answers. -/
theorem busRead_quiet {s : State} (h : s.quiet) (req : BusReq) {pa : PAddr} (hk : s.cfg.kindAt pa req.size = none)
    (line : Option (Bool × Nat)) :
    ∃ bus, s.busRead req pa false line =
      .ok (s.response none s.settledMem line.isSome pa) { s with wbuf := [], bus := bus, mem := s.settledMem } := by
  obtain ⟨b, hb⟩ := drain_quiet h
  refine ⟨req :: b, ?_⟩
  unfold State.busRead
  rw [h.2.2]
  simp only [hb, Res.bind, hk]
  rw [issue_quiet (by exact h.2.1)]
  simp only [reduceCtorEq, if_false, Res.ok.injEq]
  exact ⟨response_memory rfl _ _ _, by rw [h.2.2]⟩

end Sys2Proof.Machine
end

