-- ==== Sys2Proof/Laws/Ops.lean ====
section
/-! SUPPORT. For each shared operation, one lemma that says all it can do; the proofs about instructions cite these
and do not unfold the operations. -/
namespace Sys2Proof.Machine

/-! ### General registers -/

/-- r0 reads 0 (10_state R31). -/
@[simp] theorem gprHeld_zero (s : State) : s.gprHeld 0 = 0 := by simp [State.gprHeld]

/-- A register after a write: r0 stays 0, the written one has the value, the others are as before. -/
theorem gprHeld_writeGpr (s : State) (r q : Reg) (v : DWord) :
    (s.writeGpr r v).gprHeld q = if q = r then (if r = 0 then 0 else v) else s.gprHeld q := by
  by_cases hr : r = 0
  · rw [State.writeGpr, if_pos hr]
    by_cases hq : q = r
    · rw [if_pos hq, if_pos hr, hq, hr]; exact gprHeld_zero s
    · rw [if_neg hq]
  · rw [State.writeGpr, if_neg hr, State.gprHeld, State.gprHeld]
    by_cases hq : q = r
    · rw [if_pos hq, if_neg hr, if_neg (by rw [hq]; exact hr)]
      simp [hq]
    · have hn : r.toNat ≠ q.toNat := fun e => hq (BitVec.eq_of_toNat_eq e.symm)
      rw [if_neg hq]
      by_cases h0 : q = 0
      · rw [if_pos h0, if_pos h0]
      · rw [if_neg h0, if_neg h0]
        simp [hn]

/-- With no late write recorded a register reads as it is held. -/
theorem readGpr_calm {s : State} (h : s.hist = []) (r : Reg) : s.readGpr r = s.gprHeld r := by
  simp [State.readGpr, h]

/-- With no late write recorded a CP0 register reads as it is held. -/
theorem cp0Seen_calm {s : State} (h : s.hist = []) (r : Reg) (who : Reader) (cur : DWord) :
    s.cp0Seen r who cur = cur := by
  simp [State.cp0Seen, h]

/-- With no late write recorded Status reads as it is held. -/
theorem statusSeen_calm {s : State} (h : s.hist = []) (who : Reader) : s.statusSeen who = s.cp0.status := by
  simp [State.statusSeen, cp0Seen_calm h, low32, zext64]

/-- With no late write recorded MFC0 sees what is held. -/
theorem cp0Read_calm {s : State} (h : s.hist = []) (r : Reg) : s.cp0Read r = s.cp0Get r := by
  rw [State.cp0Read, cp0Seen_calm h, show s.timerSeen .move = s.timerInt by simp [State.timerSeen, h]]
  by_cases hr : r = 13
  · subst hr
    simp [State.cp0Stored, State.cp0Get, State.cause, zext64, BitVec.setWidth_or]
  · rw [if_neg hr, State.cp0Stored, if_neg hr]

/-- A write of a general register changes that register and nothing else. -/
theorem writeGpr_rest (s : State) (r : Reg) (v : DWord) :
    s.writeGpr r v = { s with gpr := (s.writeGpr r v).gpr } := by
  unfold State.writeGpr; split <;> rfl

/-- A write of a general register records no late write. -/
@[simp] theorem writeGpr_hist (s : State) (r : Reg) (v : DWord) : (s.writeGpr r v).hist = s.hist := by
  unfold State.writeGpr; split <;> rfl

/-! ### The end of an instruction -/

/-- Random after `stepRandom`, for a legal Wired (11_cp0_registers R74). -/
theorem stepRandom_steps (s t : State) (h : t.cp0.random = s.stepRandom.cp0.random) : s.randomSteps t := by
  intro hw
  have hn : ¬ 47 < s.cp0.wired.toNat := by omega
  have hm : s.cp0.random.toNat % 4294967296 = s.cp0.random.toNat :=
    Nat.mod_eq_of_lt (Nat.lt_of_lt_of_le s.cp0.random.isLt (by decide))
  have he : (s.cp0.random.setWidth 32 = s.cp0.wired) ↔ (s.cp0.random.toNat = s.cp0.wired.toNat) := by
    constructor
    · intro e; rw [← e, BitVec.toNat_setWidth]; exact hm.symm
    · intro e; apply BitVec.eq_of_toNat_eq; rw [BitVec.toNat_setWidth]; exact hm.trans e
  rw [h]
  simp only [State.stepRandom, gt_iff_lt, hn, if_false, he]

/-- An instruction that completes changes the program counter, the pending branch and Random. -/
theorem retire_rest (s : State) :
    s.retire = { s with
      pc := s.nextPc, pending := none, cp0 := { s.cp0 with random := s.stepRandom.cp0.random } } := by
  unfold State.retire State.advance State.nextPc
  split <;> simp_all [State.stepRandom]

/-- An instruction that completes goes on at the next instruction. -/
theorem retire_continued (s : State) : s.Continued s.retire := by
  rw [retire_rest]
  exact ⟨rfl, rfl, stepRandom_steps _ _ rfl⟩

/-- The end of an instruction, whatever it wrote before, if the program counter, the pending branch, Random and Wired
were left alone. -/
theorem continued_of {s u : State} (hpc : u.pc = s.pc) (hp : u.pending = s.pending)
    (hr : u.cp0.random = s.cp0.random) (hw : u.cp0.wired = s.cp0.wired) : s.Continued u.retire := by
  have h := retire_continued u
  refine ⟨?_, h.slot, ?_⟩
  · rw [h.pc]; simp [State.nextPc, hpc, hp]
  · intro hle
    have := h.random (by rw [hw]; exact hle)
    rw [this, hr, hw]

/-- Writing a general register as the last thing an instruction does. -/
theorem setGpr_wrote (s : State) (rd : Reg) (v : DWord) :
    ∃ t, s.setGpr rd v = .next t ∧ s.Wrote t rd v := by
  refine ⟨_, rfl, ?_⟩
  have hrest := writeGpr_rest s rd v
  refine { result := ?_, frame := ⟨?_, ?_, ?_⟩, continued := ?_, late := ?_ }
  · rw [retire_rest]
    show (s.writeGpr rd v).gprHeld rd = _
    simp [gprHeld_writeGpr]
  · intro r hr; rw [retire_rest]
    show (s.writeGpr rd v).gprHeld r = _
    simp [gprHeld_writeGpr, hr]
  · intro a; rw [retire_rest, hrest]
  · rw [retire_rest, hrest]
  · apply continued_of <;> rw [hrest]
  · intro h hh; rw [retire_rest] at hh; rwa [← writeGpr_hist s rd v]

/-- Writing a general register by a coprocessor move (70_reset_and_hazards R852). -/
theorem writeGprLate_wrote (s : State) (rd : Reg) (v : DWord) :
    ∃ t, (s.writeGprLate rd v).done = .next t ∧ s.WroteLate t rd v := by
  refine ⟨_, rfl, ?_⟩
  have hrest : s.writeGprLate rd v = { s with
      gpr := (s.writeGpr rd v).gpr, hist := (s.writeGprLate rd v).hist } := by
    unfold State.writeGprLate
    simp only
    split
    · rw [writeGpr_hist]; exact writeGpr_rest s rd v
    · rw [writeGpr_rest s rd v]; rfl
  have hg : ∀ r, (s.writeGprLate rd v).gprHeld r = (s.writeGpr rd v).gprHeld r := by
    intro r; rw [hrest]; rfl
  refine { result := ?_, frame := ⟨?_, ?_, ?_⟩, continued := ?_ }
  · rw [retire_rest]
    show (s.writeGprLate rd v).gprHeld rd = _
    simp [hg, gprHeld_writeGpr]
  · intro r hr; rw [retire_rest]
    show (s.writeGprLate rd v).gprHeld r = _
    simp [hg, gprHeld_writeGpr, hr]
  · intro a; rw [retire_rest, hrest]
  · rw [retire_rest, hrest]
  · apply continued_of <;> rw [hrest]

/-- Completing with nothing written. -/
theorem done_wrote (s : State) : ∃ t, s.done = .next t ∧ s.Wrote t 0 0 := by
  have h := setGpr_wrote s 0 0
  simpa [State.setGpr, State.writeGpr] using h

/-! ### Tests before an instruction -/

/-- Where 64-bit operations are enabled the test changes nothing (30_encoding R291). -/
@[simp] theorem needs64_enabled {s : State} (h : s.ops64Enabled = true) (k : Result) : s.needs64 k = k := by
  simp [State.needs64, h]

/-- Where they are not, Reserved Instruction. -/
@[simp] theorem needs64_disabled {s : State} (h : s.ops64Enabled = false) (k : Result) :
    s.needs64 k = .next (s.raise .reservedInstruction) := by
  simp [State.needs64, h, State.except]

/-- Where coprocessor `z` is usable the test changes nothing (46_coprocessor R529). -/
@[simp] theorem needsCop_usable {s : State} {z : Nat} (h : s.copUsable z = true) (k : Result) :
    s.needsCop z k = k := by
  simp [State.needsCop, h]

/-- Where it is not, Coprocessor Unusable. -/
@[simp] theorem needsCop_unusable {s : State} {z : Nat} (h : s.copUsable z = false) (k : Result) :
    s.needsCop z k = .next (s.raise (.coprocessorUnusable (BitVec.ofNat 2 z))) := by
  simp [State.needsCop, h, State.except]

/-! ### Results with exceptions -/

/-- A sequence answers a value only if both parts do. -/
theorem bind_ok {α β : Type} {r : Res α} {f : α → State → Res β} {b : β} {t : State} :
    r.bind f = .ok b t ↔ ∃ a u, r = .ok a u ∧ f a u = .ok b t := by
  cases r <;> simp [Res.bind]

/-- A sequence ends early if its first part does, or its second part does. -/
theorem bind_stop {α β : Type} {r : Res α} {f : α → State → Res β} {o : Result} :
    r.bind f = .stop o ↔ r = .stop o ∨ ∃ a u, r = .ok a u ∧ f a u = .stop o := by
  cases r <;> simp [Res.bind]

/-- An instruction's end: as its first part ended, or as the rest says. -/
theorem finish_eq {α : Type} {r : Res α} {f : α → State → Result} {o : Result} :
    r.finish f = o ↔ r = .stop o ∨ ∃ a u, r = .ok a u ∧ f a u = o := by
  cases r <;> simp [Res.finish]

/-! ### Branches -/

/-- A jump outside a delay slot. -/
theorem jump_linked (s : State) (hp : s.pending = none) (target : DWord) (link : Reg) (v : DWord) :
    ∃ t, s.jump target link v = .next t ∧ s.BranchLinked t link v ∧ s.slotThen t target link := by
  have hrest := writeGpr_rest s link v
  have hw : (s.writeGpr link v).cp0 = s.cp0 := by rw [hrest]
  refine ⟨_, by simp only [State.jump, hp]; rfl, { result := ?_, frame := ⟨?_, ?_, ?_⟩, late := ?_, random := ?_ }, ?_⟩
  · show (s.writeGpr link v).gprHeld link = _
    simp [gprHeld_writeGpr]
  · intro r hr; show (s.writeGpr link v).gprHeld r = _
    simp [gprHeld_writeGpr, hr]
  · intro a; simp only [State.stepRandom]; rw [hrest]
  · simp only [State.stepRandom]; rw [hrest]
  · show ∀ h ∈ (s.writeGpr link v).hist, h ∈ s.hist
    simp
  · apply stepRandom_steps; simp only [State.stepRandom, State.freeWord]; rw [hrest]
  · exact ⟨rfl, rfl⟩

end Sys2Proof.Machine
end

