-- ==== Sys2Proof/Laws/Cycle.lean ====
section
/-! SUPPORT. What the operations around an instruction can change: requests, draining, the wait for a read, the end of
a step and a killed fetch. -/
namespace Sys2Proof.Machine

/-! ### Requests -/

theorem issue_rest (s : State) (r : BusReq) :
    s.issue r = { s with bus := r :: s.bus, mem := (s.issue r).mem, dma := s.dma.tail } := rfl

/-- A write that leaves changes memory, the bus and the writes of other masters that are left. -/
theorem sendWrite_rest {s t : State} {e : WEntry} (h : s.sendWrite e = .ok () t) :
    t = { s with mem := t.mem, bus := t.bus, dma := t.dma } := by
  unfold State.sendWrite at h
  split at h
  · cases h
  · split at h <;> cases h <;> rfl

theorem sendAll_rest (l : List WEntry) {s t : State} (h : State.sendAll l s = .ok () t) :
    t = { s with mem := t.mem, bus := t.bus, dma := t.dma } := by
  induction l generalizing s with
  | nil => cases h; rfl
  | cons e l ih =>
    obtain ⟨_, u, hu, ht⟩ := bind_ok.mp h
    rw [ih ht, sendWrite_rest hu]

/-- Draining empties the write buffer and changes nothing else but memory, the bus and the writes of other masters. -/
theorem drain_rest {s t : State} (h : s.drain = .ok () t) :
    t = { s with mem := t.mem, wbuf := [], bus := t.bus, dma := t.dma } := by
  have := sendAll_rest _ h
  rw [this]

/-- A read that is answered changes nothing else, but takes the response that was waiting. -/
theorem busRead_rest {s t : State} {req : BusReq} {pa : PAddr} {fetch : Bool} {line : Option (Bool × Nat)}
    {cs : List DataCycle} (h : s.busRead req pa fetch line = .ok cs t) :
    t = { s with mem := t.mem, wbuf := t.wbuf, bus := t.bus, dma := t.dma, busReply := none } := by
  unfold State.busRead at h
  split at h
  · cases h; rfl
  · rename_i hr
    obtain ⟨_, u, hu, ht⟩ := bind_ok.mp h
    have hd := drain_rest hu
    dsimp only at ht
    split at ht
    · cases ht
    · cases ht
      rw [issue_rest, hd]
      simp [hr]

/-! ### Parity and write-backs -/

/-- A parity check that lets the instruction go on changes nothing: there was no error, or Status.DE is 1. -/
theorem checkParity_ok {s t : State} {p : Option ParityError} (h : s.checkParity p = .ok () t) :
    t = s ∧ (p = none ∨ stDE (s.statusSeen .parityEnable) = true) := by
  cases p with
  | none => cases h; exact ⟨rfl, .inl rfl⟩
  | some e =>
    simp only [State.checkParity, State.parityError] at h
    split at h
    · cases h; exact ⟨rfl, .inr ‹_›⟩
    · cases h

/-- A response that lets the instruction go on is not erroneous and, unless Status.DE is 1, of good parity; it changes
nothing. -/
theorem checkResponse_ok {s t : State} {cs : List DataCycle} {fetch er : Bool} {va : DWord} {pa : PAddr}
    (h : s.checkResponse cs fetch er va pa = .ok () t) :
    t = s ∧ respError cs = false ∧ (respBad cs = false ∨ stDE (s.statusSeen .parityEnable) = true) := by
  obtain ⟨_, u, hu, ht⟩ := bind_ok.mp h
  obtain ⟨rfl, hp⟩ := checkParity_ok hu
  split at ht
  · cases ht
  · rename_i he
    cases ht
    refine ⟨rfl, by simpa using he, hp.imp_left fun hn => ?_⟩
    unfold respParity at hn
    split at hn
    · cases hn
    · rename_i hb
      simpa using hb

/-- A good response lets the instruction go on. -/
theorem checkResponse_good (s : State) {cs : List DataCycle} (he : respError cs = false) (hb : respBad cs = false)
    (fetch er : Bool) (va : DWord) (pa : PAddr) : s.checkResponse cs fetch er va pa = .ok () s := by
  simp [State.checkResponse, respParity, he, hb, State.checkParity, Res.bind]

/-- A line that enters the write buffer is alone there; nothing else changes but what draining it does, and the record of
late writes. -/
theorem pushLine_rest {s t : State} {pa : PAddr} {d : LineData} {par : BitVec 32} {retained : Bool}
    {slot : Bool × Nat} (h : s.pushLine pa d par retained slot = .ok () t) :
    t = { s with mem := t.mem, wbuf := [.line pa d par retained slot], bus := t.bus, dma := t.dma, hist := t.hist } := by
  obtain ⟨_, u, hu, ht⟩ := bind_ok.mp h
  cases ht
  rw [drain_rest hu]
  rfl

/-- What leaves the cache goes to the write buffer, if it was modified; no line of the cache changes. -/
theorem evict_rest {s t : State} {va : DWord} {pa : PAddr} {i : Nat} (h : s.evict va pa i = .ok () t) :
    t = { s with mem := t.mem, wbuf := t.wbuf, bus := t.bus, dma := t.dma, hist := t.hist } := by
  unfold State.evict at h
  dsimp only at h
  split at h
  · obtain ⟨_, u, hu, ht⟩ := bind_ok.mp h
    rw [(checkParity_ok ht).1, pushLine_rest hu]
  · cases h; rfl

/-! ### Around the step -/

theorem latchNmi_rest (s : State) :
    s.latchNmi = { s with nmiLatch := s.latchNmi.nmiLatch, nmiPrev := s.nmiLevel } := rfl

theorem extDone_rest (s : State) : s.extDone = { s with slave := s.extDone.slave } := rfl

/-- An aborted line changes its cache alone. -/
theorem abortLine_rest (s : State) (instr : Bool) (i : Nat) :
    s.abortLine instr i = { s with
      dcache := (s.abortLine instr i).dcache, icache := (s.abortLine instr i).icache } := by
  cases instr <;> rfl

theorem foldl_abortLine_rest (l : List (Bool × Nat)) (s : State) :
    ∃ d c, l.foldl (fun s p => s.abortLine p.1 p.2) s = { s with dcache := d, icache := c } := by
  induction l generalizing s with
  | nil => exact ⟨_, _, rfl⟩
  | cons p l ih =>
    obtain ⟨d, c, h⟩ := ih (s.abortLine p.1 p.2)
    exact ⟨d, c, by rw [List.foldl_cons, h, abortLine_rest]⟩

/-- Of the state outside memory a soft reset aborts nothing but cache lines. -/
theorem abortLines_rest (s : State) :
    ∃ d c, s.abortLines = { s with dcache := d, icache := c } := foldl_abortLine_rest _ s

/-- A killed fetch changes the address registers alone. -/
theorem killedFetch_rest (s t u : State) (k : Nat) :
    s.killedFetch t u k = { t with cp0 := { t.cp0 with
      badVAddr := (s.killedFetch t u k).cp0.badVAddr, context := (s.killedFetch t u k).cp0.context
      xContext := (s.killedFetch t u k).cp0.xContext, entryHi := (s.killedFetch t u k).cp0.entryHi } } := by
  unfold State.killedFetch
  split <;> rfl

/-- So do several, one after the other. -/
theorem foldl_killedFetch_rest (s : State) (l : List (State × Nat)) (t : State) :
    let r := l.foldl (init := t) fun t p => s.killedFetch t p.1 p.2
    r = { t with cp0 := { t.cp0 with
      badVAddr := r.cp0.badVAddr, context := r.cp0.context, xContext := r.cp0.xContext, entryHi := r.cp0.entryHi } } := by
  induction l generalizing t with
  | nil => rfl
  | cons p l ih =>
    simp only [List.foldl_cons]
    rw [ih, killedFetch_rest]

/-- The fetches killed behind an instruction change the address registers alone. -/
theorem killFetches_rest (s t : State) (run : Instr → State → Result) :
    s.killFetches t run = { t with cp0 := { t.cp0 with
      badVAddr := (s.killFetches t run).cp0.badVAddr, context := (s.killFetches t run).cp0.context
      xContext := (s.killFetches t run).cp0.xContext, entryHi := (s.killFetches t run).cp0.entryHi } } :=
  foldl_killedFetch_rest s _ t

/-- A fetch that ends at once brings the instruction its word decodes to. -/
theorem fetched_eq {s u : State} {w : Word} {i : Instr} (hf : s.fetch = .ok w u) (hd : decode w = .instr i) :
    s.fetched = some i := by
  simp [State.fetched, hf, hd]

/-- After an instruction that took no exception and is no ERET no fetch was killed. -/
theorem killFetches_none {s t : State} (run : Instr → State → Result) (h : t.exc = false)
    (hi : s.fetched ≠ some .eret) : s.killFetches t run = t := by
  unfold State.killFetches State.killed
  rw [if_neg (by simp [h]), if_neg hi]
  rfl

/-- What follows an instruction is a next state exactly if the instruction gave one. -/
theorem afterRun_next {s t : State} {run : Instr → State → Result} {r : Result} (h : s.afterRun run r = .next t) :
    ∃ u, r = .next u ∧ t = s.killFetches u run := by
  cases r with
  | next u => cases h; exact ⟨u, rfl, rfl⟩
  | fault f => cases h
  | refused r => cases h

theorem holdWord_next {w : Word} {t : State} {r : Result} (h : holdWord w r = .next t) :
    ∃ u, r = .next u ∧ t = { u with busWait := t.busWait } := by
  cases r with
  | next u => cases h; exact ⟨u, rfl, rfl⟩
  | fault f => cases h
  | refused r => cases h

theorem endStep_next {t : State} {r : Result} : endStep r = .next t ↔ ∃ u, r = .next u ∧ t = u.tick := by
  cases r <;> simp [endStep, eq_comm]

theorem countTicks_rest (k : Nat) (s : State) :
    s.countTicks k = { s with
      cp0 := { s.cp0 with count := (s.countTicks k).cp0.count }, timerInt := (s.countTicks k).timerInt } := by
  induction k generalizing s with
  | zero => rfl
  | succ k ih =>
    unfold State.countTicks
    rw [ih]

/-- The end of a step changes Count, its phase, the timer latch and the model's counter. -/
theorem tick_rest (s : State) :
    s.tick = { s with
      cp0 := { s.cp0 with count := s.tick.cp0.count }, timerInt := s.tick.timerInt
      countPhase := s.tick.countPhase, free := s.tick.free } := by
  simp only [State.tick]
  rw [countTicks_rest]

end Sys2Proof.Machine
end

