-- ==== Sys2Proof/Laws/Encoding.lean ====
section
/-! SUPPORT. What each field of a word is, for each of the word formats (30_encoding R271, R272): the lemmas the
round trip of encoding and decoding rests on. -/
namespace Sys2Proof

@[simp] theorem opOf_mkR (op : BitVec 6) (rs rt rd sa : BitVec 5) (fn : BitVec 6) :
    opOf (mkR op rs rt rd sa fn) = op := by
  unfold opOf mkR
  apply BitVec.eq_of_getLsbD_eq; intro i hi
  simp only [BitVec.getLsbD_extractLsb', BitVec.getLsbD_append]
  repeat' split
  all_goals first | omega | (simp only [hi, decide_true, Bool.true_and]; congr 1; omega)

@[simp] theorem rsOf_mkR (op : BitVec 6) (rs rt rd sa : BitVec 5) (fn : BitVec 6) :
    rsOf (mkR op rs rt rd sa fn) = rs := by
  unfold rsOf mkR
  apply BitVec.eq_of_getLsbD_eq; intro i hi
  simp only [BitVec.getLsbD_extractLsb', BitVec.getLsbD_append]
  repeat' split
  all_goals first | omega | (simp only [hi, decide_true, Bool.true_and]; congr 1; omega)

@[simp] theorem rtOf_mkR (op : BitVec 6) (rs rt rd sa : BitVec 5) (fn : BitVec 6) :
    rtOf (mkR op rs rt rd sa fn) = rt := by
  unfold rtOf mkR
  apply BitVec.eq_of_getLsbD_eq; intro i hi
  simp only [BitVec.getLsbD_extractLsb', BitVec.getLsbD_append]
  repeat' split
  all_goals first | omega | (simp only [hi, decide_true, Bool.true_and]; congr 1; omega)

@[simp] theorem rdOf_mkR (op : BitVec 6) (rs rt rd sa : BitVec 5) (fn : BitVec 6) :
    rdOf (mkR op rs rt rd sa fn) = rd := by
  unfold rdOf mkR
  apply BitVec.eq_of_getLsbD_eq; intro i hi
  simp only [BitVec.getLsbD_extractLsb', BitVec.getLsbD_append]
  repeat' split
  all_goals first | omega | (simp only [hi, decide_true, Bool.true_and]; congr 1; omega)

@[simp] theorem saOf_mkR (op : BitVec 6) (rs rt rd sa : BitVec 5) (fn : BitVec 6) :
    saOf (mkR op rs rt rd sa fn) = sa := by
  unfold saOf mkR
  apply BitVec.eq_of_getLsbD_eq; intro i hi
  simp only [BitVec.getLsbD_extractLsb', BitVec.getLsbD_append]
  repeat' split
  all_goals first | omega | (simp only [hi, decide_true, Bool.true_and]; congr 1; omega)

@[simp] theorem fnOf_mkR (op : BitVec 6) (rs rt rd sa : BitVec 5) (fn : BitVec 6) :
    fnOf (mkR op rs rt rd sa fn) = fn := by
  unfold fnOf mkR
  apply BitVec.eq_of_getLsbD_eq; intro i hi
  simp only [BitVec.getLsbD_extractLsb', BitVec.getLsbD_append]
  repeat' split
  all_goals first | omega | (simp only [hi, decide_true, Bool.true_and]; congr 1; omega)

@[simp] theorem opOf_mkI (op : BitVec 6) (rs rt : BitVec 5) (imm : BitVec 16) :
    opOf (mkI op rs rt imm) = op := by
  unfold opOf mkI
  apply BitVec.eq_of_getLsbD_eq; intro i hi
  simp only [BitVec.getLsbD_extractLsb', BitVec.getLsbD_append]
  repeat' split
  all_goals first | omega | (simp only [hi, decide_true, Bool.true_and]; congr 1; omega)

@[simp] theorem rsOf_mkI (op : BitVec 6) (rs rt : BitVec 5) (imm : BitVec 16) :
    rsOf (mkI op rs rt imm) = rs := by
  unfold rsOf mkI
  apply BitVec.eq_of_getLsbD_eq; intro i hi
  simp only [BitVec.getLsbD_extractLsb', BitVec.getLsbD_append]
  repeat' split
  all_goals first | omega | (simp only [hi, decide_true, Bool.true_and]; congr 1; omega)

@[simp] theorem rtOf_mkI (op : BitVec 6) (rs rt : BitVec 5) (imm : BitVec 16) :
    rtOf (mkI op rs rt imm) = rt := by
  unfold rtOf mkI
  apply BitVec.eq_of_getLsbD_eq; intro i hi
  simp only [BitVec.getLsbD_extractLsb', BitVec.getLsbD_append]
  repeat' split
  all_goals first | omega | (simp only [hi, decide_true, Bool.true_and]; congr 1; omega)

@[simp] theorem immOf_mkI (op : BitVec 6) (rs rt : BitVec 5) (imm : BitVec 16) :
    immOf (mkI op rs rt imm) = imm := by
  unfold immOf mkI
  apply BitVec.eq_of_getLsbD_eq; intro i hi
  simp only [BitVec.getLsbD_extractLsb', BitVec.getLsbD_append]
  repeat' split
  all_goals first | omega | (simp only [hi, decide_true, Bool.true_and]; congr 1; omega)

@[simp] theorem opOf_mkJ (op : BitVec 6) (target : BitVec 26) :
    opOf (mkJ op target) = op := by
  unfold opOf mkJ
  apply BitVec.eq_of_getLsbD_eq; intro i hi
  simp only [BitVec.getLsbD_extractLsb', BitVec.getLsbD_append]
  repeat' split
  all_goals first | omega | (simp only [hi, decide_true, Bool.true_and]; congr 1; omega)

@[simp] theorem targetOf_mkJ (op : BitVec 6) (target : BitVec 26) :
    targetOf (mkJ op target) = target := by
  unfold targetOf mkJ
  apply BitVec.eq_of_getLsbD_eq; intro i hi
  simp only [BitVec.getLsbD_extractLsb', BitVec.getLsbD_append]
  repeat' split
  all_goals first | omega | (simp only [hi, decide_true, Bool.true_and]; congr 1; omega)

@[simp] theorem opOf_mkCode (op : BitVec 6) (code : BitVec 20) (fn : BitVec 6) :
    opOf (mkCode op code fn) = op := by
  unfold opOf mkCode
  apply BitVec.eq_of_getLsbD_eq; intro i hi
  simp only [BitVec.getLsbD_extractLsb', BitVec.getLsbD_append]
  repeat' split
  all_goals first | omega | (simp only [hi, decide_true, Bool.true_and]; congr 1; omega)

@[simp] theorem codeOf_mkCode (op : BitVec 6) (code : BitVec 20) (fn : BitVec 6) :
    codeOf (mkCode op code fn) = code := by
  unfold codeOf mkCode
  apply BitVec.eq_of_getLsbD_eq; intro i hi
  simp only [BitVec.getLsbD_extractLsb', BitVec.getLsbD_append]
  repeat' split
  all_goals first | omega | (simp only [hi, decide_true, Bool.true_and]; congr 1; omega)

@[simp] theorem fnOf_mkCode (op : BitVec 6) (code : BitVec 20) (fn : BitVec 6) :
    fnOf (mkCode op code fn) = fn := by
  unfold fnOf mkCode
  apply BitVec.eq_of_getLsbD_eq; intro i hi
  simp only [BitVec.getLsbD_extractLsb', BitVec.getLsbD_append]
  repeat' split
  all_goals first | omega | (simp only [hi, decide_true, Bool.true_and]; congr 1; omega)

@[simp] theorem opOf_mkTrap (op : BitVec 6) (rs rt : BitVec 5) (code : BitVec 10) (fn : BitVec 6) :
    opOf (mkTrap op rs rt code fn) = op := by
  unfold opOf mkTrap
  apply BitVec.eq_of_getLsbD_eq; intro i hi
  simp only [BitVec.getLsbD_extractLsb', BitVec.getLsbD_append]
  repeat' split
  all_goals first | omega | (simp only [hi, decide_true, Bool.true_and]; congr 1; omega)

@[simp] theorem rsOf_mkTrap (op : BitVec 6) (rs rt : BitVec 5) (code : BitVec 10) (fn : BitVec 6) :
    rsOf (mkTrap op rs rt code fn) = rs := by
  unfold rsOf mkTrap
  apply BitVec.eq_of_getLsbD_eq; intro i hi
  simp only [BitVec.getLsbD_extractLsb', BitVec.getLsbD_append]
  repeat' split
  all_goals first | omega | (simp only [hi, decide_true, Bool.true_and]; congr 1; omega)

@[simp] theorem rtOf_mkTrap (op : BitVec 6) (rs rt : BitVec 5) (code : BitVec 10) (fn : BitVec 6) :
    rtOf (mkTrap op rs rt code fn) = rt := by
  unfold rtOf mkTrap
  apply BitVec.eq_of_getLsbD_eq; intro i hi
  simp only [BitVec.getLsbD_extractLsb', BitVec.getLsbD_append]
  repeat' split
  all_goals first | omega | (simp only [hi, decide_true, Bool.true_and]; congr 1; omega)

@[simp] theorem trapCodeOf_mkTrap (op : BitVec 6) (rs rt : BitVec 5) (code : BitVec 10) (fn : BitVec 6) :
    trapCodeOf (mkTrap op rs rt code fn) = code := by
  unfold trapCodeOf mkTrap
  apply BitVec.eq_of_getLsbD_eq; intro i hi
  simp only [BitVec.getLsbD_extractLsb', BitVec.getLsbD_append]
  repeat' split
  all_goals first | omega | (simp only [hi, decide_true, Bool.true_and]; congr 1; omega)

@[simp] theorem fnOf_mkTrap (op : BitVec 6) (rs rt : BitVec 5) (code : BitVec 10) (fn : BitVec 6) :
    fnOf (mkTrap op rs rt code fn) = fn := by
  unfold fnOf mkTrap
  apply BitVec.eq_of_getLsbD_eq; intro i hi
  simp only [BitVec.getLsbD_extractLsb', BitVec.getLsbD_append]
  repeat' split
  all_goals first | omega | (simp only [hi, decide_true, Bool.true_and]; congr 1; omega)

@[simp] theorem opOf_mkCop2 (op : BitVec 6) (cofun : BitVec 25) :
    opOf (mkCop2 op cofun) = op := by
  unfold opOf mkCop2
  apply BitVec.eq_of_getLsbD_eq; intro i hi
  simp only [BitVec.getLsbD_extractLsb', BitVec.getLsbD_append]
  repeat' split
  all_goals first | omega | (simp only [hi, decide_true, Bool.true_and]; congr 1; omega)

@[simp] theorem cofunOf_mkCop2 (op : BitVec 6) (cofun : BitVec 25) :
    cofunOf (mkCop2 op cofun) = cofun := by
  unfold cofunOf mkCop2
  apply BitVec.eq_of_getLsbD_eq; intro i hi
  simp only [BitVec.getLsbD_extractLsb', BitVec.getLsbD_append]
  repeat' split
  all_goals first | omega | (simp only [hi, decide_true, Bool.true_and]; congr 1; omega)

@[simp] theorem opOf_mkCmp (op : BitVec 6) (fmt ft fs : BitVec 5) (cond : BitVec 4) :
    opOf (mkCmp op fmt ft fs cond) = op := by
  unfold opOf mkCmp
  apply BitVec.eq_of_getLsbD_eq; intro i hi
  simp only [BitVec.getLsbD_extractLsb', BitVec.getLsbD_append]
  repeat' split
  all_goals first | omega | (simp only [hi, decide_true, Bool.true_and]; congr 1; omega)

@[simp] theorem rsOf_mkCmp (op : BitVec 6) (fmt ft fs : BitVec 5) (cond : BitVec 4) :
    rsOf (mkCmp op fmt ft fs cond) = fmt := by
  unfold rsOf mkCmp
  apply BitVec.eq_of_getLsbD_eq; intro i hi
  simp only [BitVec.getLsbD_extractLsb', BitVec.getLsbD_append]
  repeat' split
  all_goals first | omega | (simp only [hi, decide_true, Bool.true_and]; congr 1; omega)

@[simp] theorem rtOf_mkCmp (op : BitVec 6) (fmt ft fs : BitVec 5) (cond : BitVec 4) :
    rtOf (mkCmp op fmt ft fs cond) = ft := by
  unfold rtOf mkCmp
  apply BitVec.eq_of_getLsbD_eq; intro i hi
  simp only [BitVec.getLsbD_extractLsb', BitVec.getLsbD_append]
  repeat' split
  all_goals first | omega | (simp only [hi, decide_true, Bool.true_and]; congr 1; omega)

@[simp] theorem rdOf_mkCmp (op : BitVec 6) (fmt ft fs : BitVec 5) (cond : BitVec 4) :
    rdOf (mkCmp op fmt ft fs cond) = fs := by
  unfold rdOf mkCmp
  apply BitVec.eq_of_getLsbD_eq; intro i hi
  simp only [BitVec.getLsbD_extractLsb', BitVec.getLsbD_append]
  repeat' split
  all_goals first | omega | (simp only [hi, decide_true, Bool.true_and]; congr 1; omega)

@[simp] theorem condOf_mkCmp (op : BitVec 6) (fmt ft fs : BitVec 5) (cond : BitVec 4) :
    condOf (mkCmp op fmt ft fs cond) = cond := by
  unfold condOf mkCmp
  apply BitVec.eq_of_getLsbD_eq; intro i hi
  simp only [BitVec.getLsbD_extractLsb', BitVec.getLsbD_append]
  repeat' split
  all_goals first | omega | (simp only [hi, decide_true, Bool.true_and]; congr 1; omega)

/-- Bit 25 of a word in register format is the top bit of its rs field. -/
theorem bit25_mkR (op : BitVec 6) (rs rt rd sa : BitVec 5) (fn : BitVec 6) :
    (mkR op rs rt rd sa fn).getLsbD 25 = rs.getLsbD 4 := by
  unfold mkR; simp only [BitVec.getLsbD_append]; rfl

/-- Bit 25 of a compare is the top bit of its format. -/
theorem bit25_mkCmp (op : BitVec 6) (fmt ft fs : BitVec 5) (cond : BitVec 4) :
    (mkCmp op fmt ft fs cond).getLsbD 25 = fmt.getLsbD 4 := by
  unfold mkCmp; simp only [BitVec.getLsbD_append]; rfl

/-- Bit 25 of a coprocessor 2 operation is 1. -/
theorem bit25_mkCop2 (op : BitVec 6) (cofun : BitVec 25) : (mkCop2 op cofun).getLsbD 25 = true := by
  unfold mkCop2; simp only [BitVec.getLsbD_append]; rfl

/-- The function field of a compare: 110000 plus the condition. -/
theorem fnOf_mkCmp (op : BitVec 6) (fmt ft fs : BitVec 5) (cond : BitVec 4) :
    fnOf (mkCmp op fmt ft fs cond) = (3 : BitVec 2) ++ cond := by
  unfold fnOf mkCmp
  apply BitVec.eq_of_getLsbD_eq; intro i hi
  simp only [BitVec.getLsbD_extractLsb', BitVec.getLsbD_append]
  repeat' split
  all_goals first | omega | (simp only [hi, decide_true, Bool.true_and]; congr 1; omega)

/-- The rs field of a coprocessor 2 operation is at least 16. -/
theorem rsOf_mkCop2 (op : BitVec 6) (cofun : BitVec 25) : 16 ≤ (rsOf (mkCop2 op cofun)).toNat := by
  have h : (rsOf (mkCop2 op cofun)).getLsbD 4 = true := by
    unfold rsOf mkCop2; simp only [BitVec.getLsbD_extractLsb', BitVec.getLsbD_append]; rfl
  generalize rsOf (mkCop2 op cofun) = r at h
  revert r; decide

/-- A format field with its leading bit is at least 16 (30_encoding R288). -/
theorem fmtOk_le (fmt : BitVec 5) (h : fmtOk fmt = true) : 16 ≤ fmt.toNat := by
  revert fmt; decide

/-- A register field of at least 16 selects a coprocessor 1 operation. -/
theorem decodeCop1_op (w : Word) (h : 16 ≤ (rsOf w).toNat) (hb : w.getLsbD 25 = true) :
    decodeCop1 w = decodeCop1Op w := by
  unfold decodeCop1
  split <;> first | omega | simp [hb]

/-- A register field of at least 16 selects a coprocessor 2 operation. -/
theorem decodeCop2_op (w : Word) (h : 16 ≤ (rsOf w).toNat) (hb : w.getLsbD 25 = true) :
    decodeCop2 w = .instr (.cop2 (cofunOf w)) := by
  unfold decodeCop2
  split <;> first | omega | simp [hb]

/-- A compare function selects the compare. -/
theorem decodeCop1Op_cmp (w : Word) (h : 48 ≤ (fnOf w).toNat) :
    decodeCop1Op w = .instr (.cCondFmt (rsOf w) (rtOf w) (rdOf w) (condOf w)) := by
  unfold decodeCop1Op
  split <;> first | omega | simp [h]

end Sys2Proof
end

