-- ==== Sys2Proof/Laws/PerInstr.lean ====
section
/-! SUPPORT. The family `Encoding`: the table lookup of the decoder finds every instruction in its own encoding. One
lemma per constructor of `Instr`. -/
namespace Sys2Proof.Laws

set_option Elab.async false

/-- The decoder's table lookup reads a well-formed instruction back from its encoding. -/
def Encoding.Statement (i : Instr) : Prop := i.wf = true → decodeRaw (encode i) = .instr i

theorem Encoding.sll (rt : BitVec 5) (rd : BitVec 5) (sa : BitVec 5) :
    Encoding.Statement (.sll rt rd sa) := by
  intro _; simp [encode, decodeRaw, decodeSpecial]

theorem Encoding.srl (rt : BitVec 5) (rd : BitVec 5) (sa : BitVec 5) :
    Encoding.Statement (.srl rt rd sa) := by
  intro _; simp [encode, decodeRaw, decodeSpecial]

theorem Encoding.sra (rt : BitVec 5) (rd : BitVec 5) (sa : BitVec 5) :
    Encoding.Statement (.sra rt rd sa) := by
  intro _; simp [encode, decodeRaw, decodeSpecial]

theorem Encoding.sllv (rs : BitVec 5) (rt : BitVec 5) (rd : BitVec 5) :
    Encoding.Statement (.sllv rs rt rd) := by
  intro _; simp [encode, decodeRaw, decodeSpecial]

theorem Encoding.srlv (rs : BitVec 5) (rt : BitVec 5) (rd : BitVec 5) :
    Encoding.Statement (.srlv rs rt rd) := by
  intro _; simp [encode, decodeRaw, decodeSpecial]

theorem Encoding.srav (rs : BitVec 5) (rt : BitVec 5) (rd : BitVec 5) :
    Encoding.Statement (.srav rs rt rd) := by
  intro _; simp [encode, decodeRaw, decodeSpecial]

theorem Encoding.jr (rs : BitVec 5) :
    Encoding.Statement (.jr rs) := by
  intro _; simp [encode, decodeRaw, decodeSpecial]

theorem Encoding.jalr (rs : BitVec 5) (rd : BitVec 5) :
    Encoding.Statement (.jalr rs rd) := by
  intro _; simp [encode, decodeRaw, decodeSpecial]

theorem Encoding.syscall (code : BitVec 20) :
    Encoding.Statement (.syscall code) := by
  intro _; simp [encode, decodeRaw, decodeSpecial]

theorem Encoding.brk (code : BitVec 20) :
    Encoding.Statement (.brk code) := by
  intro _; simp [encode, decodeRaw, decodeSpecial]

theorem Encoding.sync :
    Encoding.Statement (.sync) := by
  intro _; simp [encode, decodeRaw, decodeSpecial]

theorem Encoding.mfhi (rd : BitVec 5) :
    Encoding.Statement (.mfhi rd) := by
  intro _; simp [encode, decodeRaw, decodeSpecial]

theorem Encoding.mthi (rs : BitVec 5) :
    Encoding.Statement (.mthi rs) := by
  intro _; simp [encode, decodeRaw, decodeSpecial]

theorem Encoding.mflo (rd : BitVec 5) :
    Encoding.Statement (.mflo rd) := by
  intro _; simp [encode, decodeRaw, decodeSpecial]

theorem Encoding.mtlo (rs : BitVec 5) :
    Encoding.Statement (.mtlo rs) := by
  intro _; simp [encode, decodeRaw, decodeSpecial]

theorem Encoding.dsllv (rs : BitVec 5) (rt : BitVec 5) (rd : BitVec 5) :
    Encoding.Statement (.dsllv rs rt rd) := by
  intro _; simp [encode, decodeRaw, decodeSpecial]

theorem Encoding.dsrlv (rs : BitVec 5) (rt : BitVec 5) (rd : BitVec 5) :
    Encoding.Statement (.dsrlv rs rt rd) := by
  intro _; simp [encode, decodeRaw, decodeSpecial]

theorem Encoding.dsrav (rs : BitVec 5) (rt : BitVec 5) (rd : BitVec 5) :
    Encoding.Statement (.dsrav rs rt rd) := by
  intro _; simp [encode, decodeRaw, decodeSpecial]

theorem Encoding.mult (rs : BitVec 5) (rt : BitVec 5) :
    Encoding.Statement (.mult rs rt) := by
  intro _; simp [encode, decodeRaw, decodeSpecial]

theorem Encoding.multu (rs : BitVec 5) (rt : BitVec 5) :
    Encoding.Statement (.multu rs rt) := by
  intro _; simp [encode, decodeRaw, decodeSpecial]

theorem Encoding.div (rs : BitVec 5) (rt : BitVec 5) :
    Encoding.Statement (.div rs rt) := by
  intro _; simp [encode, decodeRaw, decodeSpecial]

theorem Encoding.divu (rs : BitVec 5) (rt : BitVec 5) :
    Encoding.Statement (.divu rs rt) := by
  intro _; simp [encode, decodeRaw, decodeSpecial]

theorem Encoding.dmult (rs : BitVec 5) (rt : BitVec 5) :
    Encoding.Statement (.dmult rs rt) := by
  intro _; simp [encode, decodeRaw, decodeSpecial]

theorem Encoding.dmultu (rs : BitVec 5) (rt : BitVec 5) :
    Encoding.Statement (.dmultu rs rt) := by
  intro _; simp [encode, decodeRaw, decodeSpecial]

theorem Encoding.ddiv (rs : BitVec 5) (rt : BitVec 5) :
    Encoding.Statement (.ddiv rs rt) := by
  intro _; simp [encode, decodeRaw, decodeSpecial]

theorem Encoding.ddivu (rs : BitVec 5) (rt : BitVec 5) :
    Encoding.Statement (.ddivu rs rt) := by
  intro _; simp [encode, decodeRaw, decodeSpecial]

theorem Encoding.add (rs : BitVec 5) (rt : BitVec 5) (rd : BitVec 5) :
    Encoding.Statement (.add rs rt rd) := by
  intro _; simp [encode, decodeRaw, decodeSpecial]

theorem Encoding.addu (rs : BitVec 5) (rt : BitVec 5) (rd : BitVec 5) :
    Encoding.Statement (.addu rs rt rd) := by
  intro _; simp [encode, decodeRaw, decodeSpecial]

theorem Encoding.sub (rs : BitVec 5) (rt : BitVec 5) (rd : BitVec 5) :
    Encoding.Statement (.sub rs rt rd) := by
  intro _; simp [encode, decodeRaw, decodeSpecial]

theorem Encoding.subu (rs : BitVec 5) (rt : BitVec 5) (rd : BitVec 5) :
    Encoding.Statement (.subu rs rt rd) := by
  intro _; simp [encode, decodeRaw, decodeSpecial]

theorem Encoding.and (rs : BitVec 5) (rt : BitVec 5) (rd : BitVec 5) :
    Encoding.Statement (.and rs rt rd) := by
  intro _; simp [encode, decodeRaw, decodeSpecial]

theorem Encoding.or (rs : BitVec 5) (rt : BitVec 5) (rd : BitVec 5) :
    Encoding.Statement (.or rs rt rd) := by
  intro _; simp [encode, decodeRaw, decodeSpecial]

theorem Encoding.xor (rs : BitVec 5) (rt : BitVec 5) (rd : BitVec 5) :
    Encoding.Statement (.xor rs rt rd) := by
  intro _; simp [encode, decodeRaw, decodeSpecial]

theorem Encoding.nor (rs : BitVec 5) (rt : BitVec 5) (rd : BitVec 5) :
    Encoding.Statement (.nor rs rt rd) := by
  intro _; simp [encode, decodeRaw, decodeSpecial]

theorem Encoding.slt (rs : BitVec 5) (rt : BitVec 5) (rd : BitVec 5) :
    Encoding.Statement (.slt rs rt rd) := by
  intro _; simp [encode, decodeRaw, decodeSpecial]

theorem Encoding.sltu (rs : BitVec 5) (rt : BitVec 5) (rd : BitVec 5) :
    Encoding.Statement (.sltu rs rt rd) := by
  intro _; simp [encode, decodeRaw, decodeSpecial]

theorem Encoding.dadd (rs : BitVec 5) (rt : BitVec 5) (rd : BitVec 5) :
    Encoding.Statement (.dadd rs rt rd) := by
  intro _; simp [encode, decodeRaw, decodeSpecial]

theorem Encoding.daddu (rs : BitVec 5) (rt : BitVec 5) (rd : BitVec 5) :
    Encoding.Statement (.daddu rs rt rd) := by
  intro _; simp [encode, decodeRaw, decodeSpecial]

theorem Encoding.dsub (rs : BitVec 5) (rt : BitVec 5) (rd : BitVec 5) :
    Encoding.Statement (.dsub rs rt rd) := by
  intro _; simp [encode, decodeRaw, decodeSpecial]

theorem Encoding.dsubu (rs : BitVec 5) (rt : BitVec 5) (rd : BitVec 5) :
    Encoding.Statement (.dsubu rs rt rd) := by
  intro _; simp [encode, decodeRaw, decodeSpecial]

theorem Encoding.tge (rs : BitVec 5) (rt : BitVec 5) (code : BitVec 10) :
    Encoding.Statement (.tge rs rt code) := by
  intro _; simp [encode, decodeRaw, decodeSpecial]

theorem Encoding.tgeu (rs : BitVec 5) (rt : BitVec 5) (code : BitVec 10) :
    Encoding.Statement (.tgeu rs rt code) := by
  intro _; simp [encode, decodeRaw, decodeSpecial]

theorem Encoding.tlt (rs : BitVec 5) (rt : BitVec 5) (code : BitVec 10) :
    Encoding.Statement (.tlt rs rt code) := by
  intro _; simp [encode, decodeRaw, decodeSpecial]

theorem Encoding.tltu (rs : BitVec 5) (rt : BitVec 5) (code : BitVec 10) :
    Encoding.Statement (.tltu rs rt code) := by
  intro _; simp [encode, decodeRaw, decodeSpecial]

theorem Encoding.teq (rs : BitVec 5) (rt : BitVec 5) (code : BitVec 10) :
    Encoding.Statement (.teq rs rt code) := by
  intro _; simp [encode, decodeRaw, decodeSpecial]

theorem Encoding.tne (rs : BitVec 5) (rt : BitVec 5) (code : BitVec 10) :
    Encoding.Statement (.tne rs rt code) := by
  intro _; simp [encode, decodeRaw, decodeSpecial]

theorem Encoding.dsll (rt : BitVec 5) (rd : BitVec 5) (sa : BitVec 5) :
    Encoding.Statement (.dsll rt rd sa) := by
  intro _; simp [encode, decodeRaw, decodeSpecial]

theorem Encoding.dsrl (rt : BitVec 5) (rd : BitVec 5) (sa : BitVec 5) :
    Encoding.Statement (.dsrl rt rd sa) := by
  intro _; simp [encode, decodeRaw, decodeSpecial]

theorem Encoding.dsra (rt : BitVec 5) (rd : BitVec 5) (sa : BitVec 5) :
    Encoding.Statement (.dsra rt rd sa) := by
  intro _; simp [encode, decodeRaw, decodeSpecial]

theorem Encoding.dsll32 (rt : BitVec 5) (rd : BitVec 5) (sa : BitVec 5) :
    Encoding.Statement (.dsll32 rt rd sa) := by
  intro _; simp [encode, decodeRaw, decodeSpecial]

theorem Encoding.dsrl32 (rt : BitVec 5) (rd : BitVec 5) (sa : BitVec 5) :
    Encoding.Statement (.dsrl32 rt rd sa) := by
  intro _; simp [encode, decodeRaw, decodeSpecial]

theorem Encoding.dsra32 (rt : BitVec 5) (rd : BitVec 5) (sa : BitVec 5) :
    Encoding.Statement (.dsra32 rt rd sa) := by
  intro _; simp [encode, decodeRaw, decodeSpecial]

theorem Encoding.bltz (rs : BitVec 5) (offset : BitVec 16) :
    Encoding.Statement (.bltz rs offset) := by
  intro _; simp [encode, decodeRaw, decodeRegimm]

theorem Encoding.bgez (rs : BitVec 5) (offset : BitVec 16) :
    Encoding.Statement (.bgez rs offset) := by
  intro _; simp [encode, decodeRaw, decodeRegimm]

theorem Encoding.bltzl (rs : BitVec 5) (offset : BitVec 16) :
    Encoding.Statement (.bltzl rs offset) := by
  intro _; simp [encode, decodeRaw, decodeRegimm]

theorem Encoding.bgezl (rs : BitVec 5) (offset : BitVec 16) :
    Encoding.Statement (.bgezl rs offset) := by
  intro _; simp [encode, decodeRaw, decodeRegimm]

theorem Encoding.tgei (rs : BitVec 5) (imm : BitVec 16) :
    Encoding.Statement (.tgei rs imm) := by
  intro _; simp [encode, decodeRaw, decodeRegimm]

theorem Encoding.tgeiu (rs : BitVec 5) (imm : BitVec 16) :
    Encoding.Statement (.tgeiu rs imm) := by
  intro _; simp [encode, decodeRaw, decodeRegimm]

theorem Encoding.tlti (rs : BitVec 5) (imm : BitVec 16) :
    Encoding.Statement (.tlti rs imm) := by
  intro _; simp [encode, decodeRaw, decodeRegimm]

theorem Encoding.tltiu (rs : BitVec 5) (imm : BitVec 16) :
    Encoding.Statement (.tltiu rs imm) := by
  intro _; simp [encode, decodeRaw, decodeRegimm]

theorem Encoding.teqi (rs : BitVec 5) (imm : BitVec 16) :
    Encoding.Statement (.teqi rs imm) := by
  intro _; simp [encode, decodeRaw, decodeRegimm]

theorem Encoding.tnei (rs : BitVec 5) (imm : BitVec 16) :
    Encoding.Statement (.tnei rs imm) := by
  intro _; simp [encode, decodeRaw, decodeRegimm]

theorem Encoding.bltzal (rs : BitVec 5) (offset : BitVec 16) :
    Encoding.Statement (.bltzal rs offset) := by
  intro _; simp [encode, decodeRaw, decodeRegimm]

theorem Encoding.bgezal (rs : BitVec 5) (offset : BitVec 16) :
    Encoding.Statement (.bgezal rs offset) := by
  intro _; simp [encode, decodeRaw, decodeRegimm]

theorem Encoding.bltzall (rs : BitVec 5) (offset : BitVec 16) :
    Encoding.Statement (.bltzall rs offset) := by
  intro _; simp [encode, decodeRaw, decodeRegimm]

theorem Encoding.bgezall (rs : BitVec 5) (offset : BitVec 16) :
    Encoding.Statement (.bgezall rs offset) := by
  intro _; simp [encode, decodeRaw, decodeRegimm]

theorem Encoding.j (target : BitVec 26) :
    Encoding.Statement (.j target) := by
  intro _; simp [encode, decodeRaw]

theorem Encoding.jal (target : BitVec 26) :
    Encoding.Statement (.jal target) := by
  intro _; simp [encode, decodeRaw]

theorem Encoding.beq (rs : BitVec 5) (rt : BitVec 5) (offset : BitVec 16) :
    Encoding.Statement (.beq rs rt offset) := by
  intro _; simp [encode, decodeRaw]

theorem Encoding.bne (rs : BitVec 5) (rt : BitVec 5) (offset : BitVec 16) :
    Encoding.Statement (.bne rs rt offset) := by
  intro _; simp [encode, decodeRaw]

theorem Encoding.blez (rs : BitVec 5) (offset : BitVec 16) :
    Encoding.Statement (.blez rs offset) := by
  intro _; simp [encode, decodeRaw]

theorem Encoding.bgtz (rs : BitVec 5) (offset : BitVec 16) :
    Encoding.Statement (.bgtz rs offset) := by
  intro _; simp [encode, decodeRaw]

theorem Encoding.addi (rs : BitVec 5) (rt : BitVec 5) (imm : BitVec 16) :
    Encoding.Statement (.addi rs rt imm) := by
  intro _; simp [encode, decodeRaw]

theorem Encoding.addiu (rs : BitVec 5) (rt : BitVec 5) (imm : BitVec 16) :
    Encoding.Statement (.addiu rs rt imm) := by
  intro _; simp [encode, decodeRaw]

theorem Encoding.slti (rs : BitVec 5) (rt : BitVec 5) (imm : BitVec 16) :
    Encoding.Statement (.slti rs rt imm) := by
  intro _; simp [encode, decodeRaw]

theorem Encoding.sltiu (rs : BitVec 5) (rt : BitVec 5) (imm : BitVec 16) :
    Encoding.Statement (.sltiu rs rt imm) := by
  intro _; simp [encode, decodeRaw]

theorem Encoding.andi (rs : BitVec 5) (rt : BitVec 5) (imm : BitVec 16) :
    Encoding.Statement (.andi rs rt imm) := by
  intro _; simp [encode, decodeRaw]

theorem Encoding.ori (rs : BitVec 5) (rt : BitVec 5) (imm : BitVec 16) :
    Encoding.Statement (.ori rs rt imm) := by
  intro _; simp [encode, decodeRaw]

theorem Encoding.xori (rs : BitVec 5) (rt : BitVec 5) (imm : BitVec 16) :
    Encoding.Statement (.xori rs rt imm) := by
  intro _; simp [encode, decodeRaw]

theorem Encoding.lui (rt : BitVec 5) (imm : BitVec 16) :
    Encoding.Statement (.lui rt imm) := by
  intro _; simp [encode, decodeRaw]

theorem Encoding.beql (rs : BitVec 5) (rt : BitVec 5) (offset : BitVec 16) :
    Encoding.Statement (.beql rs rt offset) := by
  intro _; simp [encode, decodeRaw]

theorem Encoding.bnel (rs : BitVec 5) (rt : BitVec 5) (offset : BitVec 16) :
    Encoding.Statement (.bnel rs rt offset) := by
  intro _; simp [encode, decodeRaw]

theorem Encoding.blezl (rs : BitVec 5) (offset : BitVec 16) :
    Encoding.Statement (.blezl rs offset) := by
  intro _; simp [encode, decodeRaw]

theorem Encoding.bgtzl (rs : BitVec 5) (offset : BitVec 16) :
    Encoding.Statement (.bgtzl rs offset) := by
  intro _; simp [encode, decodeRaw]

theorem Encoding.daddi (rs : BitVec 5) (rt : BitVec 5) (imm : BitVec 16) :
    Encoding.Statement (.daddi rs rt imm) := by
  intro _; simp [encode, decodeRaw]

theorem Encoding.daddiu (rs : BitVec 5) (rt : BitVec 5) (imm : BitVec 16) :
    Encoding.Statement (.daddiu rs rt imm) := by
  intro _; simp [encode, decodeRaw]

theorem Encoding.ldl (base : BitVec 5) (rt : BitVec 5) (offset : BitVec 16) :
    Encoding.Statement (.ldl base rt offset) := by
  intro _; simp [encode, decodeRaw]

theorem Encoding.ldr (base : BitVec 5) (rt : BitVec 5) (offset : BitVec 16) :
    Encoding.Statement (.ldr base rt offset) := by
  intro _; simp [encode, decodeRaw]

theorem Encoding.lb (base : BitVec 5) (rt : BitVec 5) (offset : BitVec 16) :
    Encoding.Statement (.lb base rt offset) := by
  intro _; simp [encode, decodeRaw]

theorem Encoding.lh (base : BitVec 5) (rt : BitVec 5) (offset : BitVec 16) :
    Encoding.Statement (.lh base rt offset) := by
  intro _; simp [encode, decodeRaw]

theorem Encoding.lwl (base : BitVec 5) (rt : BitVec 5) (offset : BitVec 16) :
    Encoding.Statement (.lwl base rt offset) := by
  intro _; simp [encode, decodeRaw]

theorem Encoding.lw (base : BitVec 5) (rt : BitVec 5) (offset : BitVec 16) :
    Encoding.Statement (.lw base rt offset) := by
  intro _; simp [encode, decodeRaw]

theorem Encoding.lbu (base : BitVec 5) (rt : BitVec 5) (offset : BitVec 16) :
    Encoding.Statement (.lbu base rt offset) := by
  intro _; simp [encode, decodeRaw]

theorem Encoding.lhu (base : BitVec 5) (rt : BitVec 5) (offset : BitVec 16) :
    Encoding.Statement (.lhu base rt offset) := by
  intro _; simp [encode, decodeRaw]

theorem Encoding.lwr (base : BitVec 5) (rt : BitVec 5) (offset : BitVec 16) :
    Encoding.Statement (.lwr base rt offset) := by
  intro _; simp [encode, decodeRaw]

theorem Encoding.lwu (base : BitVec 5) (rt : BitVec 5) (offset : BitVec 16) :
    Encoding.Statement (.lwu base rt offset) := by
  intro _; simp [encode, decodeRaw]

theorem Encoding.sb (base : BitVec 5) (rt : BitVec 5) (offset : BitVec 16) :
    Encoding.Statement (.sb base rt offset) := by
  intro _; simp [encode, decodeRaw]

theorem Encoding.sh (base : BitVec 5) (rt : BitVec 5) (offset : BitVec 16) :
    Encoding.Statement (.sh base rt offset) := by
  intro _; simp [encode, decodeRaw]

theorem Encoding.swl (base : BitVec 5) (rt : BitVec 5) (offset : BitVec 16) :
    Encoding.Statement (.swl base rt offset) := by
  intro _; simp [encode, decodeRaw]

theorem Encoding.sw (base : BitVec 5) (rt : BitVec 5) (offset : BitVec 16) :
    Encoding.Statement (.sw base rt offset) := by
  intro _; simp [encode, decodeRaw]

theorem Encoding.sdl (base : BitVec 5) (rt : BitVec 5) (offset : BitVec 16) :
    Encoding.Statement (.sdl base rt offset) := by
  intro _; simp [encode, decodeRaw]

theorem Encoding.sdr (base : BitVec 5) (rt : BitVec 5) (offset : BitVec 16) :
    Encoding.Statement (.sdr base rt offset) := by
  intro _; simp [encode, decodeRaw]

theorem Encoding.swr (base : BitVec 5) (rt : BitVec 5) (offset : BitVec 16) :
    Encoding.Statement (.swr base rt offset) := by
  intro _; simp [encode, decodeRaw]

theorem Encoding.cache (base : BitVec 5) (op : BitVec 5) (offset : BitVec 16) :
    Encoding.Statement (.cache base op offset) := by
  intro _; simp [encode, decodeRaw]

theorem Encoding.ll (base : BitVec 5) (rt : BitVec 5) (offset : BitVec 16) :
    Encoding.Statement (.ll base rt offset) := by
  intro _; simp [encode, decodeRaw]

theorem Encoding.lld (base : BitVec 5) (rt : BitVec 5) (offset : BitVec 16) :
    Encoding.Statement (.lld base rt offset) := by
  intro _; simp [encode, decodeRaw]

theorem Encoding.ld (base : BitVec 5) (rt : BitVec 5) (offset : BitVec 16) :
    Encoding.Statement (.ld base rt offset) := by
  intro _; simp [encode, decodeRaw]

theorem Encoding.sc (base : BitVec 5) (rt : BitVec 5) (offset : BitVec 16) :
    Encoding.Statement (.sc base rt offset) := by
  intro _; simp [encode, decodeRaw]

theorem Encoding.scd (base : BitVec 5) (rt : BitVec 5) (offset : BitVec 16) :
    Encoding.Statement (.scd base rt offset) := by
  intro _; simp [encode, decodeRaw]

theorem Encoding.sd (base : BitVec 5) (rt : BitVec 5) (offset : BitVec 16) :
    Encoding.Statement (.sd base rt offset) := by
  intro _; simp [encode, decodeRaw]

theorem Encoding.lwc1 (base : BitVec 5) (ft : BitVec 5) (offset : BitVec 16) :
    Encoding.Statement (.lwc1 base ft offset) := by
  intro _; simp [encode, decodeRaw]

theorem Encoding.ldc1 (base : BitVec 5) (ft : BitVec 5) (offset : BitVec 16) :
    Encoding.Statement (.ldc1 base ft offset) := by
  intro _; simp [encode, decodeRaw]

theorem Encoding.swc1 (base : BitVec 5) (ft : BitVec 5) (offset : BitVec 16) :
    Encoding.Statement (.swc1 base ft offset) := by
  intro _; simp [encode, decodeRaw]

theorem Encoding.sdc1 (base : BitVec 5) (ft : BitVec 5) (offset : BitVec 16) :
    Encoding.Statement (.sdc1 base ft offset) := by
  intro _; simp [encode, decodeRaw]

theorem Encoding.lwc2 (base : BitVec 5) (rt : BitVec 5) (offset : BitVec 16) :
    Encoding.Statement (.lwc2 base rt offset) := by
  intro _; simp [encode, decodeRaw]

theorem Encoding.ldc2 (base : BitVec 5) (rt : BitVec 5) (offset : BitVec 16) :
    Encoding.Statement (.ldc2 base rt offset) := by
  intro _; simp [encode, decodeRaw]

theorem Encoding.swc2 (base : BitVec 5) (rt : BitVec 5) (offset : BitVec 16) :
    Encoding.Statement (.swc2 base rt offset) := by
  intro _; simp [encode, decodeRaw]

theorem Encoding.sdc2 (base : BitVec 5) (rt : BitVec 5) (offset : BitVec 16) :
    Encoding.Statement (.sdc2 base rt offset) := by
  intro _; simp [encode, decodeRaw]

theorem Encoding.mfc0 (rt : BitVec 5) (rd : BitVec 5) :
    Encoding.Statement (.mfc0 rt rd) := by
  intro _; simp [encode, decodeRaw, decodeCop0]

theorem Encoding.dmfc0 (rt : BitVec 5) (rd : BitVec 5) :
    Encoding.Statement (.dmfc0 rt rd) := by
  intro _; simp [encode, decodeRaw, decodeCop0]

theorem Encoding.mtc0 (rt : BitVec 5) (rd : BitVec 5) :
    Encoding.Statement (.mtc0 rt rd) := by
  intro _; simp [encode, decodeRaw, decodeCop0]

theorem Encoding.dmtc0 (rt : BitVec 5) (rd : BitVec 5) :
    Encoding.Statement (.dmtc0 rt rd) := by
  intro _; simp [encode, decodeRaw, decodeCop0]

theorem Encoding.cfc0 (rt : BitVec 5) (rd : BitVec 5) :
    Encoding.Statement (.cfc0 rt rd) := by
  intro _; simp [encode, decodeRaw, decodeCop0]

theorem Encoding.ctc0 (rt : BitVec 5) (rd : BitVec 5) :
    Encoding.Statement (.ctc0 rt rd) := by
  intro _; simp [encode, decodeRaw, decodeCop0]

theorem Encoding.bc0f (offset : BitVec 16) :
    Encoding.Statement (.bc0f offset) := by
  intro _; simp [encode, decodeRaw, decodeCop0, decodeBc0]

theorem Encoding.bc0t (offset : BitVec 16) :
    Encoding.Statement (.bc0t offset) := by
  intro _; simp [encode, decodeRaw, decodeCop0, decodeBc0]

theorem Encoding.bc0fl (offset : BitVec 16) :
    Encoding.Statement (.bc0fl offset) := by
  intro _; simp [encode, decodeRaw, decodeCop0, decodeBc0]

theorem Encoding.bc0tl (offset : BitVec 16) :
    Encoding.Statement (.bc0tl offset) := by
  intro _; simp [encode, decodeRaw, decodeCop0, decodeBc0]

theorem Encoding.tlbr :
    Encoding.Statement (.tlbr) := by
  intro _; decide

theorem Encoding.tlbwi :
    Encoding.Statement (.tlbwi) := by
  intro _; decide

theorem Encoding.tlbwr :
    Encoding.Statement (.tlbwr) := by
  intro _; decide

theorem Encoding.tlbp :
    Encoding.Statement (.tlbp) := by
  intro _; decide

theorem Encoding.eret :
    Encoding.Statement (.eret) := by
  intro _; decide

theorem Encoding.wait :
    Encoding.Statement (.wait) := by
  intro _; decide

theorem Encoding.mfc1 (rt : BitVec 5) (fs : BitVec 5) :
    Encoding.Statement (.mfc1 rt fs) := by
  intro _; simp [encode, decodeRaw, decodeCop1]

theorem Encoding.dmfc1 (rt : BitVec 5) (fs : BitVec 5) :
    Encoding.Statement (.dmfc1 rt fs) := by
  intro _; simp [encode, decodeRaw, decodeCop1]

theorem Encoding.cfc1 (rt : BitVec 5) (fs : BitVec 5) :
    Encoding.Statement (.cfc1 rt fs) := by
  intro _; simp [encode, decodeRaw, decodeCop1]

theorem Encoding.mtc1 (rt : BitVec 5) (fs : BitVec 5) :
    Encoding.Statement (.mtc1 rt fs) := by
  intro _; simp [encode, decodeRaw, decodeCop1]

theorem Encoding.dmtc1 (rt : BitVec 5) (fs : BitVec 5) :
    Encoding.Statement (.dmtc1 rt fs) := by
  intro _; simp [encode, decodeRaw, decodeCop1]

theorem Encoding.ctc1 (rt : BitVec 5) (fs : BitVec 5) :
    Encoding.Statement (.ctc1 rt fs) := by
  intro _; simp [encode, decodeRaw, decodeCop1]

theorem Encoding.bc1f (offset : BitVec 16) :
    Encoding.Statement (.bc1f offset) := by
  intro _; simp [encode, decodeRaw, decodeCop1, decodeBc1]

theorem Encoding.bc1t (offset : BitVec 16) :
    Encoding.Statement (.bc1t offset) := by
  intro _; simp [encode, decodeRaw, decodeCop1, decodeBc1]

theorem Encoding.bc1fl (offset : BitVec 16) :
    Encoding.Statement (.bc1fl offset) := by
  intro _; simp [encode, decodeRaw, decodeCop1, decodeBc1]

theorem Encoding.bc1tl (offset : BitVec 16) :
    Encoding.Statement (.bc1tl offset) := by
  intro _; simp [encode, decodeRaw, decodeCop1, decodeBc1]

theorem Encoding.addFmt (fmt : BitVec 5) (ft : BitVec 5) (fs : BitVec 5) (fd : BitVec 5) :
    Encoding.Statement (.addFmt fmt ft fs fd) := by
  intro h
  have h16 := fmtOk_le fmt h
  simp only [encode, decodeRaw, opOf_mkR]
  exact (decodeCop1_op _ (by simpa using h16) (by rw [bit25_mkR]; exact h)).trans (by simp [decodeCop1Op])

theorem Encoding.subFmt (fmt : BitVec 5) (ft : BitVec 5) (fs : BitVec 5) (fd : BitVec 5) :
    Encoding.Statement (.subFmt fmt ft fs fd) := by
  intro h
  have h16 := fmtOk_le fmt h
  simp only [encode, decodeRaw, opOf_mkR]
  exact (decodeCop1_op _ (by simpa using h16) (by rw [bit25_mkR]; exact h)).trans (by simp [decodeCop1Op])

theorem Encoding.mulFmt (fmt : BitVec 5) (ft : BitVec 5) (fs : BitVec 5) (fd : BitVec 5) :
    Encoding.Statement (.mulFmt fmt ft fs fd) := by
  intro h
  have h16 := fmtOk_le fmt h
  simp only [encode, decodeRaw, opOf_mkR]
  exact (decodeCop1_op _ (by simpa using h16) (by rw [bit25_mkR]; exact h)).trans (by simp [decodeCop1Op])

theorem Encoding.divFmt (fmt : BitVec 5) (ft : BitVec 5) (fs : BitVec 5) (fd : BitVec 5) :
    Encoding.Statement (.divFmt fmt ft fs fd) := by
  intro h
  have h16 := fmtOk_le fmt h
  simp only [encode, decodeRaw, opOf_mkR]
  exact (decodeCop1_op _ (by simpa using h16) (by rw [bit25_mkR]; exact h)).trans (by simp [decodeCop1Op])

theorem Encoding.sqrtFmt (fmt : BitVec 5) (fs : BitVec 5) (fd : BitVec 5) :
    Encoding.Statement (.sqrtFmt fmt fs fd) := by
  intro h
  have h16 := fmtOk_le fmt h
  simp only [encode, decodeRaw, opOf_mkR]
  exact (decodeCop1_op _ (by simpa using h16) (by rw [bit25_mkR]; exact h)).trans (by simp [decodeCop1Op])

theorem Encoding.absFmt (fmt : BitVec 5) (fs : BitVec 5) (fd : BitVec 5) :
    Encoding.Statement (.absFmt fmt fs fd) := by
  intro h
  have h16 := fmtOk_le fmt h
  simp only [encode, decodeRaw, opOf_mkR]
  exact (decodeCop1_op _ (by simpa using h16) (by rw [bit25_mkR]; exact h)).trans (by simp [decodeCop1Op])

theorem Encoding.movFmt (fmt : BitVec 5) (fs : BitVec 5) (fd : BitVec 5) :
    Encoding.Statement (.movFmt fmt fs fd) := by
  intro h
  have h16 := fmtOk_le fmt h
  simp only [encode, decodeRaw, opOf_mkR]
  exact (decodeCop1_op _ (by simpa using h16) (by rw [bit25_mkR]; exact h)).trans (by simp [decodeCop1Op])

theorem Encoding.negFmt (fmt : BitVec 5) (fs : BitVec 5) (fd : BitVec 5) :
    Encoding.Statement (.negFmt fmt fs fd) := by
  intro h
  have h16 := fmtOk_le fmt h
  simp only [encode, decodeRaw, opOf_mkR]
  exact (decodeCop1_op _ (by simpa using h16) (by rw [bit25_mkR]; exact h)).trans (by simp [decodeCop1Op])

theorem Encoding.roundLFmt (fmt : BitVec 5) (fs : BitVec 5) (fd : BitVec 5) :
    Encoding.Statement (.roundLFmt fmt fs fd) := by
  intro h
  have h16 := fmtOk_le fmt h
  simp only [encode, decodeRaw, opOf_mkR]
  exact (decodeCop1_op _ (by simpa using h16) (by rw [bit25_mkR]; exact h)).trans (by simp [decodeCop1Op])

theorem Encoding.truncLFmt (fmt : BitVec 5) (fs : BitVec 5) (fd : BitVec 5) :
    Encoding.Statement (.truncLFmt fmt fs fd) := by
  intro h
  have h16 := fmtOk_le fmt h
  simp only [encode, decodeRaw, opOf_mkR]
  exact (decodeCop1_op _ (by simpa using h16) (by rw [bit25_mkR]; exact h)).trans (by simp [decodeCop1Op])

theorem Encoding.ceilLFmt (fmt : BitVec 5) (fs : BitVec 5) (fd : BitVec 5) :
    Encoding.Statement (.ceilLFmt fmt fs fd) := by
  intro h
  have h16 := fmtOk_le fmt h
  simp only [encode, decodeRaw, opOf_mkR]
  exact (decodeCop1_op _ (by simpa using h16) (by rw [bit25_mkR]; exact h)).trans (by simp [decodeCop1Op])

theorem Encoding.floorLFmt (fmt : BitVec 5) (fs : BitVec 5) (fd : BitVec 5) :
    Encoding.Statement (.floorLFmt fmt fs fd) := by
  intro h
  have h16 := fmtOk_le fmt h
  simp only [encode, decodeRaw, opOf_mkR]
  exact (decodeCop1_op _ (by simpa using h16) (by rw [bit25_mkR]; exact h)).trans (by simp [decodeCop1Op])

theorem Encoding.roundWFmt (fmt : BitVec 5) (fs : BitVec 5) (fd : BitVec 5) :
    Encoding.Statement (.roundWFmt fmt fs fd) := by
  intro h
  have h16 := fmtOk_le fmt h
  simp only [encode, decodeRaw, opOf_mkR]
  exact (decodeCop1_op _ (by simpa using h16) (by rw [bit25_mkR]; exact h)).trans (by simp [decodeCop1Op])

theorem Encoding.truncWFmt (fmt : BitVec 5) (fs : BitVec 5) (fd : BitVec 5) :
    Encoding.Statement (.truncWFmt fmt fs fd) := by
  intro h
  have h16 := fmtOk_le fmt h
  simp only [encode, decodeRaw, opOf_mkR]
  exact (decodeCop1_op _ (by simpa using h16) (by rw [bit25_mkR]; exact h)).trans (by simp [decodeCop1Op])

theorem Encoding.ceilWFmt (fmt : BitVec 5) (fs : BitVec 5) (fd : BitVec 5) :
    Encoding.Statement (.ceilWFmt fmt fs fd) := by
  intro h
  have h16 := fmtOk_le fmt h
  simp only [encode, decodeRaw, opOf_mkR]
  exact (decodeCop1_op _ (by simpa using h16) (by rw [bit25_mkR]; exact h)).trans (by simp [decodeCop1Op])

theorem Encoding.floorWFmt (fmt : BitVec 5) (fs : BitVec 5) (fd : BitVec 5) :
    Encoding.Statement (.floorWFmt fmt fs fd) := by
  intro h
  have h16 := fmtOk_le fmt h
  simp only [encode, decodeRaw, opOf_mkR]
  exact (decodeCop1_op _ (by simpa using h16) (by rw [bit25_mkR]; exact h)).trans (by simp [decodeCop1Op])

theorem Encoding.cvtSFmt (fmt : BitVec 5) (fs : BitVec 5) (fd : BitVec 5) :
    Encoding.Statement (.cvtSFmt fmt fs fd) := by
  intro h
  have h16 := fmtOk_le fmt h
  simp only [encode, decodeRaw, opOf_mkR]
  exact (decodeCop1_op _ (by simpa using h16) (by rw [bit25_mkR]; exact h)).trans (by simp [decodeCop1Op])

theorem Encoding.cvtDFmt (fmt : BitVec 5) (fs : BitVec 5) (fd : BitVec 5) :
    Encoding.Statement (.cvtDFmt fmt fs fd) := by
  intro h
  have h16 := fmtOk_le fmt h
  simp only [encode, decodeRaw, opOf_mkR]
  exact (decodeCop1_op _ (by simpa using h16) (by rw [bit25_mkR]; exact h)).trans (by simp [decodeCop1Op])

theorem Encoding.cvtWFmt (fmt : BitVec 5) (fs : BitVec 5) (fd : BitVec 5) :
    Encoding.Statement (.cvtWFmt fmt fs fd) := by
  intro h
  have h16 := fmtOk_le fmt h
  simp only [encode, decodeRaw, opOf_mkR]
  exact (decodeCop1_op _ (by simpa using h16) (by rw [bit25_mkR]; exact h)).trans (by simp [decodeCop1Op])

theorem Encoding.cvtLFmt (fmt : BitVec 5) (fs : BitVec 5) (fd : BitVec 5) :
    Encoding.Statement (.cvtLFmt fmt fs fd) := by
  intro h
  have h16 := fmtOk_le fmt h
  simp only [encode, decodeRaw, opOf_mkR]
  exact (decodeCop1_op _ (by simpa using h16) (by rw [bit25_mkR]; exact h)).trans (by simp [decodeCop1Op])

theorem Encoding.cCondFmt (fmt : BitVec 5) (ft : BitVec 5) (fs : BitVec 5) (cond : BitVec 4) :
    Encoding.Statement (.cCondFmt fmt ft fs cond) := by
  intro h
  have h16 := fmtOk_le fmt h
  have hf : 48 ≤ (fnOf (mkCmp 17 fmt ft fs cond)).toNat := by
    have hc : ∀ c : BitVec 4, 48 ≤ ((3 : BitVec 2) ++ c).toNat := by decide
    rw [fnOf_mkCmp]; exact hc cond
  simp only [encode, decodeRaw, opOf_mkCmp]
  exact (decodeCop1_op _ (by simpa using h16) (by rw [bit25_mkCmp]; exact h)).trans
    (by rw [decodeCop1Op_cmp _ hf]; simp)

theorem Encoding.mfc2 (rt : BitVec 5) (rd : BitVec 5) :
    Encoding.Statement (.mfc2 rt rd) := by
  intro _; simp [encode, decodeRaw, decodeCop2]

theorem Encoding.dmfc2 (rt : BitVec 5) (rd : BitVec 5) :
    Encoding.Statement (.dmfc2 rt rd) := by
  intro _; simp [encode, decodeRaw, decodeCop2]

theorem Encoding.cfc2 (rt : BitVec 5) (rd : BitVec 5) :
    Encoding.Statement (.cfc2 rt rd) := by
  intro _; simp [encode, decodeRaw, decodeCop2]

theorem Encoding.mtc2 (rt : BitVec 5) (rd : BitVec 5) :
    Encoding.Statement (.mtc2 rt rd) := by
  intro _; simp [encode, decodeRaw, decodeCop2]

theorem Encoding.dmtc2 (rt : BitVec 5) (rd : BitVec 5) :
    Encoding.Statement (.dmtc2 rt rd) := by
  intro _; simp [encode, decodeRaw, decodeCop2]

theorem Encoding.ctc2 (rt : BitVec 5) (rd : BitVec 5) :
    Encoding.Statement (.ctc2 rt rd) := by
  intro _; simp [encode, decodeRaw, decodeCop2]

theorem Encoding.bc2f (offset : BitVec 16) :
    Encoding.Statement (.bc2f offset) := by
  intro _; simp [encode, decodeRaw, decodeCop2, decodeBc2]

theorem Encoding.bc2t (offset : BitVec 16) :
    Encoding.Statement (.bc2t offset) := by
  intro _; simp [encode, decodeRaw, decodeCop2, decodeBc2]

theorem Encoding.bc2fl (offset : BitVec 16) :
    Encoding.Statement (.bc2fl offset) := by
  intro _; simp [encode, decodeRaw, decodeCop2, decodeBc2]

theorem Encoding.bc2tl (offset : BitVec 16) :
    Encoding.Statement (.bc2tl offset) := by
  intro _; simp [encode, decodeRaw, decodeCop2, decodeBc2]

theorem Encoding.cop2 (cofun : BitVec 25) :
    Encoding.Statement (.cop2 cofun) := by
  intro _
  simp only [encode, decodeRaw, opOf_mkCop2]
  exact (decodeCop2_op _ (rsOf_mkCop2 _ _) (bit25_mkCop2 _ _)).trans (by simp)

end Sys2Proof.Laws
end

