-- ==== Sys2Proof/Tests/Slice0.lean ====
section
/-! SUPPORT. Tests: ill-formed instructions are refused; words written out from the encodings (30_encoding R292) decode
to their instructions; single instructions give the results of the spec's vectors (96_test_vectors_integer_system and
97_test_vectors_fpu, which no run of the model produced); and for every statement of Obligations.lean that has
hypotheses, a concrete state that meets them. -/
open Sys2Proof Sys2Proof.Machine
namespace Sys2Proof.Tests
set_option Elab.async false

/-! ### Helpers -/

/-- Kernel mode at 0xFFFFFFFF80001000 with coprocessors 0 to 2 usable. -/
def bench : State :=
  { State.reset with pc := 0xFFFFFFFF80001000#64, cp0 := { Cp0.reset with status := 0x70000000#32 } }

def withRegs (s : State) (l : List (Reg × DWord)) : State := l.foldl (fun s p => s.writeGpr p.1 p.2) s

def withStatus (st : Word) (s : State) : State := { s with cp0 := { s.cp0 with status := st } }

/-- What `f` finds after the instruction, if there is a next state. -/
def after {α : Type} (i : Instr) (s : State) (f : State → α) : Option α :=
  match exec i s with
  | .next t => some (f t)
  | _ => none

/-- The same for a word, through the decoder. -/
def ran {α : Type} (w : Word) (s : State) (f : State → α) : Option α :=
  match decode w with
  | .instr i => after i s f
  | _ => none

/-- The same for one whole step. -/
def stepped {α : Type} (s : State) (f : State → α) : Option α :=
  match step s with
  | .next t => some (f t)
  | _ => none

/-- Where control goes after the instruction at pc + 4, or after a nullified one. -/
def leads (t : State) : DWord := (t.pending.map (·.target)).getD t.pc

/-- The start state of vectors B4: r4 at physical 0x100, which holds 11 22 .. 88; r2 as there. -/
def data (big : Bool) : State :=
  { withRegs bench [(4, 0xFFFFFFFF80000100#64), (2, 0xA1B2C3D4E5F60718#64)] with
    cfg := { Params.reset with bigEndian := big }
    mem := [(0x100, 0x11), (0x101, 0x22), (0x102, 0x33), (0x103, 0x44), (0x104, 0x55), (0x105, 0x66), (0x106, 0x77),
      (0x107, 0x88)] }

/-- The eight bytes from `a`, buffered writes included, as one number, the first the most significant. -/
def bytesFrom (a : Nat) (t : State) : Nat := bytesValue true (fun k => t.byteAt (a + k)) 8

/-! ### Well-formedness: fmt has bit 25 set -/

theorem test_wf_refuses_fmt_below_16 : ∀ i ∈ ([
    .addFmt 15 4 2 0, .subFmt 0 4 2 0, .mulFmt 1 4 2 0, .divFmt 2 4 2 0, .sqrtFmt 15 2 0, .absFmt 8 2 0,
    .movFmt 0 2 0, .negFmt 4 2 0, .roundLFmt 15 2 0, .truncLFmt 1 2 0, .ceilLFmt 2 2 0, .floorLFmt 3 2 0,
    .roundWFmt 4 2 0, .truncWFmt 5 2 0, .ceilWFmt 6 2 0, .floorWFmt 7 2 0, .cvtSFmt 8 2 0, .cvtDFmt 9 2 0,
    .cvtWFmt 10 2 0, .cvtLFmt 11 2 0, .cCondFmt 15 4 2 12] : List Instr), i.wf = false := by decide +kernel

theorem test_wf_accepts_fmt_16 : (Instr.addFmt 16 4 2 0).wf = true := by decide +kernel

/-! ### Decoding: one word per constructor, written from the patterns of 30_encoding R292 -/

theorem test_decode_1 : ∀ p ∈ ([
    (0x00157C00#32, .sll 21 15 16), (0x00158102#32, .srl 21 16 4), (0x0008B343#32, .sra 8 22 13),
    (0x01169804#32, .sllv 8 22 19), (0x00BCC006#32, .srlv 5 28 24), (0x02699007#32, .srav 19 9 18),
    (0x01A00008#32, .jr 13), (0x0020A809#32, .jalr 1 21), (0x00F5D50C#32, .syscall 0x3D754),
    (0x00F683CD#32, .brk 0x3DA0F), (0x0000000F#32, .sync), (0x00005010#32, .mfhi 10), (0x00A00011#32, .mthi 5),
    (0x00007812#32, .mflo 15), (0x03800013#32, .mtlo 28), (0x03557814#32, .dsllv 26 21 15),
    (0x01BD0816#32, .dsrlv 13 29 1), (0x006D9017#32, .dsrav 3 13 18), (0x01790018#32, .mult 11 25),
    (0x007D0019#32, .multu 3 29), (0x01DE001A#32, .div 14 30), (0x0272001B#32, .divu 19 18)] : List (Word × Instr)),
    decode p.1 = .instr p.2 := by decide +kernel

theorem test_decode_2 : ∀ p ∈ ([
    (0x0331001C#32, .dmult 25 17), (0x010C001D#32, .dmultu 8 12), (0x0251001E#32, .ddiv 18 17),
    (0x02EA001F#32, .ddivu 23 10), (0x007B6820#32, .add 3 27 13), (0x00F95821#32, .addu 7 25 11),
    (0x02A1E822#32, .sub 21 1 29), (0x03B21023#32, .subu 29 18 2), (0x018FB024#32, .and 12 15 22),
    (0x01D5C025#32, .or 14 21 24), (0x016FA026#32, .xor 11 15 20), (0x008B8827#32, .nor 4 11 17),
    (0x00BE982A#32, .slt 5 30 19), (0x0073302B#32, .sltu 3 19 6), (0x016F502C#32, .dadd 11 15 10),
    (0x0259F02D#32, .daddu 18 25 30), (0x022E482E#32, .dsub 17 14 9), (0x0170402F#32, .dsubu 11 16 8),
    (0x02C378F0#32, .tge 22 3 0x1E3), (0x015D04B1#32, .tgeu 10 29 18), (0x00C106B2#32, .tlt 6 1 26),
    (0x00943633#32, .tltu 4 20 0xD8)] : List (Word × Instr)),
    decode p.1 = .instr p.2 := by decide +kernel

theorem test_decode_3 : ∀ p ∈ ([
    (0x012492B4#32, .teq 9 4 0x24A), (0x03853836#32, .tne 28 5 0xE0), (0x0004CAF8#32, .dsll 4 25 11),
    (0x0002EEFA#32, .dsrl 2 29 27), (0x0017B4BB#32, .dsra 23 22 18), (0x000E2ABC#32, .dsll32 14 5 10),
    (0x001D823E#32, .dsrl32 29 16 8), (0x0015EC7F#32, .dsra32 21 29 17), (0x04402AB0#32, .bltz 2 0x2AB0),
    (0x0681D40D#32, .bgez 20 0xD40D), (0x06028FDD#32, .bltzl 16 0x8FDD), (0x0763E131#32, .bgezl 27 0xE131),
    (0x05481137#32, .tgei 10 0x1137), (0x07898299#32, .tgeiu 28 0x8299), (0x07AAA3DB#32, .tlti 29 0xA3DB),
    (0x048B18C0#32, .tltiu 4 0x18C0), (0x06AC72A5#32, .teqi 21 0x72A5), (0x046ED5BD#32, .tnei 3 0xD5BD),
    (0x063047F8#32, .bltzal 17 0x47F8), (0x07D1DE02#32, .bgezal 30 0xDE02), (0x0752741C#32, .bltzall 26 0x741C),
    (0x05B39351#32, .bgezall 13 0x9351)] : List (Word × Instr)),
    decode p.1 = .instr p.2 := by decide +kernel

theorem test_decode_4 : ∀ p ∈ ([
    (0x083726BD#32, .j 0x3726BD), (0x0C115C57#32, .jal 0x115C57), (0x1173D9B6#32, .beq 11 19 0xD9B6),
    (0x16B654F7#32, .bne 21 22 0x54F7), (0x18209D08#32, .blez 1 0x9D08), (0x1CE01F19#32, .bgtz 7 0x1F19),
    (0x211D2A10#32, .addi 8 29 0x2A10), (0x2776DC93#32, .addiu 27 22 0xDC93), (0x2BC39097#32, .slti 30 3 0x9097),
    (0x2C9D1C6C#32, .sltiu 4 29 0x1C6C), (0x32CDEAD8#32, .andi 22 13 0xEAD8), (0x3681DA2A#32, .ori 20 1 0xDA2A),
    (0x3B95DB81#32, .xori 28 21 0xDB81), (0x3C160395#32, .lui 22 0x395), (0x51857E4F#32, .beql 12 5 0x7E4F),
    (0x55D4B898#32, .bnel 14 20 0xB898), (0x59E02C15#32, .blezl 15 0x2C15), (0x5D607725#32, .bgtzl 11 0x7725),
    (0x6254E58B#32, .daddi 18 20 0xE58B), (0x673639B7#32, .daddiu 25 22 0x39B7), (0x6A35D96C#32, .ldl 17 21 0xD96C),
    (0x6F050B8C#32, .ldr 24 5 0xB8C)] : List (Word × Instr)),
    decode p.1 = .instr p.2 := by decide +kernel

theorem test_decode_5 : ∀ p ∈ ([
    (0x83BE6C55#32, .lb 29 30 0x6C55), (0x86FD7F5C#32, .lh 23 29 0x7F5C), (0x8A26D912#32, .lwl 17 6 0xD912),
    (0x8CD701D6#32, .lw 6 23 0x1D6), (0x931E2B85#32, .lbu 24 30 0x2B85), (0x964DE5F1#32, .lhu 18 13 0xE5F1),
    (0x9AE7328B#32, .lwr 23 7 0x328B), (0x9D69F321#32, .lwu 11 9 0xF321), (0xA1F88816#32, .sb 15 24 0x8816),
    (0xA5741143#32, .sh 11 20 0x1143), (0xAB730277#32, .swl 27 19 0x277), (0xAF346543#32, .sw 25 20 0x6543),
    (0xB2A6717C#32, .sdl 21 6 0x717C), (0xB4F62050#32, .sdr 7 22 0x2050), (0xB9AC4CD4#32, .swr 13 12 0x4CD4),
    (0xBD9EF26D#32, .cache 12 30 0xF26D), (0xC18A3CFB#32, .ll 12 10 0x3CFB), (0xD1ACDCBA#32, .lld 13 12 0xDCBA),
    (0xDF8789DB#32, .ld 28 7 0x89DB), (0xE25A7678#32, .sc 18 26 0x7678), (0xF02EC9E0#32, .scd 1 14 0xC9E0),
    (0xFFDC9521#32, .sd 30 28 0x9521)] : List (Word × Instr)),
    decode p.1 = .instr p.2 := by decide +kernel

theorem test_decode_6 : ∀ p ∈ ([
    (0xC6F97A2D#32, .lwc1 23 25 0x7A2D), (0xD6D90B74#32, .ldc1 22 25 0xB74), (0xE61B4DC3#32, .swc1 16 27 0x4DC3),
    (0xF7BA95F1#32, .sdc1 29 26 0x95F1), (0xCBDA9F00#32, .lwc2 30 26 0x9F00), (0xDBC4CC3A#32, .ldc2 30 4 0xCC3A),
    (0xEB08BEDA#32, .swc2 24 8 0xBEDA), (0xFB90C1E9#32, .sdc2 28 16 0xC1E9), (0x400DD800#32, .mfc0 13 27),
    (0x4032E800#32, .dmfc0 18 29), (0x4089A000#32, .mtc0 9 20), (0x40AB1000#32, .dmtc0 11 2),
    (0x405A1800#32, .cfc0 26 3), (0x40C79000#32, .ctc0 7 18), (0x4100AF0C#32, .bc0f 0xAF0C),
    (0x41015084#32, .bc0t 0x5084), (0x4102CBD1#32, .bc0fl 0xCBD1), (0x4103024A#32, .bc0tl 0x24A),
    (0x42000001#32, .tlbr), (0x42000002#32, .tlbwi), (0x42000006#32, .tlbwr), (0x42000008#32, .tlbp)] : List (Word × Instr)),
    decode p.1 = .instr p.2 := by decide +kernel

theorem test_decode_7 : ∀ p ∈ ([
    (0x42000018#32, .eret), (0x42000020#32, .wait), (0x440A9000#32, .mfc1 10 18), (0x44363000#32, .dmfc1 22 6),
    (0x44415000#32, .cfc1 1 10), (0x44820800#32, .mtc1 2 1), (0x44BD4000#32, .dmtc1 29 8),
    (0x44C1C000#32, .ctc1 1 24), (0x4500A709#32, .bc1f 0xA709), (0x45015328#32, .bc1t 0x5328),
    (0x45027EBE#32, .bc1fl 0x7EBE), (0x450395E7#32, .bc1tl 0x95E7), (0x46253280#32, .addFmt 17 5 6 10),
    (0x463C2F41#32, .subFmt 17 28 5 29), (0x46093EC2#32, .mulFmt 16 9 7 27), (0x4628B843#32, .divFmt 17 8 23 1),
    (0x4620A0C4#32, .sqrtFmt 17 20 3), (0x4620A285#32, .absFmt 17 20 10), (0x4620A186#32, .movFmt 17 20 6),
    (0x4600CA47#32, .negFmt 16 25 9), (0x4600ED88#32, .roundLFmt 16 29 22), (0x460059C9#32, .truncLFmt 16 11 7)] : List (Word × Instr)),
    decode p.1 = .instr p.2 := by decide +kernel

theorem test_decode_8 : ∀ p ∈ ([
    (0x4600A40A#32, .ceilLFmt 16 20 16), (0x46006DCB#32, .floorLFmt 16 13 23), (0x46005F0C#32, .roundWFmt 16 11 28),
    (0x4600454D#32, .truncWFmt 16 8 21), (0x4600C68E#32, .ceilWFmt 16 24 26), (0x4620BD0F#32, .floorWFmt 17 23 20),
    (0x46005620#32, .cvtSFmt 16 10 24), (0x46005D61#32, .cvtDFmt 16 11 21), (0x46204D24#32, .cvtWFmt 17 9 20),
    (0x4600E2A5#32, .cvtLFmt 16 28 10), (0x461E2838#32, .cCondFmt 16 30 5 8), (0x481D9000#32, .mfc2 29 18),
    (0x48349000#32, .dmfc2 20 18), (0x48485800#32, .cfc2 8 11), (0x48845800#32, .mtc2 4 11),
    (0x48BA4800#32, .dmtc2 26 9), (0x48CA4800#32, .ctc2 10 9), (0x49008092#32, .bc2f 0x8092),
    (0x49013A1A#32, .bc2t 0x3A1A), (0x490284CB#32, .bc2fl 0x84CB), (0x490302B8#32, .bc2tl 0x2B8),
    (0x4A482A0B#32, .cop2 0x482A0B)] : List (Word × Instr)),
    decode p.1 = .instr p.2 := by decide +kernel

/-! ### Results of single instructions -/

/-- The word run with r1 = `a` and r2 = `b` leaves r3, or takes Integer Overflow and leaves it 0. -/
def alu (w : Word) (a b : DWord) : Option (Option DWord) :=
  ran w (withRegs bench [(1, a), (2, b)]) fun t =>
    if t.exc then (if t.cp0.cause = 0x30#32 ∧ t.gprHeld 3 = 0 then none else some 0xBAD) else some (t.gprHeld 3)

/-- 96_test_vectors B1. -/
theorem test_alu_1 :
    alu 0x00221820 0x7FFFFFFF 1 = some none ∧
    alu 0x00221820 0xFFFFFFFFFFFFFFFF 1 = some (some 0) ∧
    alu 0x00221821 0x7FFFFFFF 1 = some (some 0xFFFFFFFF80000000) ∧
    alu 0x00221821 0xFFFFFFFF80000000 0xFFFFFFFFFFFFFFFF = some (some 0x7FFFFFFF) ∧
    alu 0x00221822 0xFFFFFFFF80000000 1 = some none ∧
    alu 0x00221822 5 7 = some (some 0xFFFFFFFFFFFFFFFE) ∧
    alu 0x00221823 0xFFFFFFFF80000000 1 = some (some 0x7FFFFFFF) ∧
    alu 0x00221823 0 1 = some (some 0xFFFFFFFFFFFFFFFF) ∧
    alu 0x0022182C 0x7FFFFFFFFFFFFFFF 1 = some none ∧
    alu 0x0022182C 0x7FFFFFFF 1 = some (some 0x80000000) ∧
    alu 0x0022182D 0x7FFFFFFFFFFFFFFF 1 = some (some 0x8000000000000000) ∧
    alu 0x0022182D 0xFFFFFFFFFFFFFFFF 2 = some (some 1) ∧
    alu 0x0022182E 0x8000000000000000 1 = some none ∧
    alu 0x0022182E 0 1 = some (some 0xFFFFFFFFFFFFFFFF) ∧
    alu 0x0022182F 0x8000000000000000 1 = some (some 0x7FFFFFFFFFFFFFFF) ∧
    alu 0x0022182F 0 0x8000000000000000 = some (some 0x8000000000000000) := by and_intros <;> decide +kernel

/-- 96_test_vectors B1. -/
theorem test_alu_2 :
    alu 0x00221824 0xFFFFFFFF00000000 0x123456789ABCDEF0 = some (some 0x1234567800000000) ∧
    alu 0x00221825 0xFFFFFFFF00000000 0x123456789ABCDEF0 = some (some 0xFFFFFFFF9ABCDEF0) ∧
    alu 0x00221826 0xFFFFFFFF00000000 0x123456789ABCDEF0 = some (some 0xEDCBA9879ABCDEF0) ∧
    alu 0x00221827 0xFFFFFFFF00000000 0x123456789ABCDEF0 = some (some 0x6543210F) ∧
    alu 0x0022182A 0xFFFFFFFFFFFFFFFF 0 = some (some 1) ∧
    alu 0x0022182A 0 0xFFFFFFFFFFFFFFFF = some (some 0) ∧
    alu 0x0022182B 0xFFFFFFFFFFFFFFFF 0 = some (some 0) ∧
    alu 0x0022182B 0 0xFFFFFFFFFFFFFFFF = some (some 1) ∧
    alu 0x20230001 0x7FFFFFFF 0 = some none ∧
    alu 0x2023FFFF 0x7FFFFFFF 0 = some (some 0x7FFFFFFE) ∧
    alu 0x24230001 0x7FFFFFFF 0 = some (some 0xFFFFFFFF80000000) ∧
    alu 0x2423FFFF 0 0 = some (some 0xFFFFFFFFFFFFFFFF) ∧
    alu 0x60230001 0x7FFFFFFFFFFFFFFF 0 = some none ∧
    alu 0x60230001 0x7FFFFFFF 0 = some (some 0x80000000) ∧
    alu 0x64230001 0x7FFFFFFFFFFFFFFF 0 = some (some 0x8000000000000000) ∧
    alu 0x64238000 0 0 = some (some 0xFFFFFFFFFFFF8000) := by and_intros <;> decide +kernel

/-- 96_test_vectors B1. -/
theorem test_alu_3 :
    alu 0x28230000 0xFFFFFFFFFFFFFFFF 0 = some (some 1) ∧
    alu 0x2823FFFF 0 0 = some (some 0) ∧
    alu 0x2C23FFFF 0 0 = some (some 1) ∧
    alu 0x2C23FFFF 0xFFFFFFFFFFFFFFFF 0 = some (some 0) ∧
    alu 0x30238001 0xFFFFFFFFFFFFFFFF 0 = some (some 0x8001) ∧
    alu 0x34238000 0xFFFFFFFF00000000 0 = some (some 0xFFFFFFFF00008000) ∧
    alu 0x34230000 0 0 = some (some 0) ∧
    alu 0x3823FFFF 0xFFFFFFFFFFFFFFFF 0 = some (some 0xFFFFFFFFFFFF0000) ∧
    alu 0x3C030000 0 0 = some (some 0) ∧
    alu 0x3C038000 0 0 = some (some 0xFFFFFFFF80000000) := by and_intros <;> decide +kernel

/-- 96_test_vectors B2. -/
theorem test_shift_1 :
    alu 0x00021800 0 0xFFFFFFFF80000001 = some (some 0xFFFFFFFF80000001) ∧
    alu 0x00021840 0 0x40000001 = some (some 0xFFFFFFFF80000002) ∧
    alu 0x00021802 0 0xFFFFFFFF80000001 = some (some 0xFFFFFFFF80000001) ∧
    alu 0x00021842 0 0xFFFFFFFF80000001 = some (some 0x40000000) ∧
    alu 0x00021843 0 0xFFFFFFFF80000001 = some (some 0xFFFFFFFFC0000000) ∧
    alu 0x00021903 0 0x40000001 = some (some 0x4000000) ∧
    alu 0x00021838 0 0x8000000000000001 = some (some 0x8000000000000001) ∧
    alu 0x00021938 0 0x123456789ABCDEF = some (some 0x123456789ABCDEF0) ∧
    alu 0x0002187A 0 0x8000000000000001 = some (some 0x4000000000000000) ∧
    alu 0x00021FFA 0 0x8000000000000001 = some (some 0x100000000) ∧
    alu 0x0002187B 0 0x8000000000000001 = some (some 0xC000000000000000) ∧
    alu 0x0002193B 0 0x123456789ABCDEF = some (some 0x123456789ABCDE) ∧
    alu 0x0002183C 0 0x123456789ABCDEF = some (some 0x89ABCDEF00000000) ∧
    alu 0x00021FFC 0 1 = some (some 0x8000000000000000) ∧
    alu 0x0002183E 0 0x8000000000000001 = some (some 0x80000000) ∧
    alu 0x00021FFE 0 0x8000000000000001 = some (some 1) := by and_intros <;> decide +kernel

/-- 96_test_vectors B2. -/
theorem test_shift_2 :
    alu 0x0002183F 0 0x8000000000000001 = some (some 0xFFFFFFFF80000000) ∧
    alu 0x0002193F 0 0x123456789ABCDEF = some (some 0x123456) ∧
    alu 0x00221804 0x20 1 = some (some 1) ∧
    alu 0x00221804 0x3F 1 = some (some 0xFFFFFFFF80000000) ∧
    alu 0x00221806 0x24 0xFFFFFFFF80000001 = some (some 0x8000000) ∧
    alu 0x00221807 0x21 0xFFFFFFFF80000001 = some (some 0xFFFFFFFFC0000000) ∧
    alu 0x00221807 0x20 0xFFFFFFFF80000001 = some (some 0xFFFFFFFF80000001) ∧
    alu 0x00221814 0x3F 1 = some (some 0x8000000000000000) ∧
    alu 0x00221814 0x48 0x123456789ABCDEF = some (some 0x23456789ABCDEF00) ∧
    alu 0x00221816 0x3F 0x8000000000000001 = some (some 1) ∧
    alu 0x00221816 0x41 0x8000000000000001 = some (some 0x4000000000000000) ∧
    alu 0x00221817 0x3F 0x8000000000000001 = some (some 0xFFFFFFFFFFFFFFFF) ∧
    alu 0x00221817 0x40 0x8000000000000001 = some (some 0x8000000000000001) := by and_intros <;> decide +kernel

/-- HI and LO after the word with r1 = `a` and r2 = `b`. -/
def hilo (w : Word) (a b : DWord) : Option (DWord × DWord) :=
  ran w (withRegs bench [(1, a), (2, b)]) fun t => (t.hi, t.lo)

/-- 96_test_vectors B3. -/
theorem test_muldiv :
    hilo 0x00220018 0xFFFFFFFF80000000 0xFFFFFFFF80000000 = some (0x40000000, 0) ∧
    hilo 0x00220018 0x10000 0x10000 = some (1, 0) ∧
    hilo 0x00220019 0xFFFFFFFF80000000 0xFFFFFFFF80000000 = some (0x40000000, 0) ∧
    hilo 0x00220019 0xFFFFFFFF80000000 2 = some (1, 0) ∧
    hilo 0x0022001C 0x8000000000000000 0x8000000000000000 = some (0x4000000000000000, 0) ∧
    hilo 0x0022001C 0x7FFFFFFFFFFFFFFF 2 = some (0, 0xFFFFFFFFFFFFFFFE) ∧
    hilo 0x0022001D 0x8000000000000000 2 = some (1, 0) ∧
    hilo 0x0022001D 0x8000000000000000 2 = some (1, 0) ∧
    hilo 0x0022001A 0xFFFFFFFFFFFFFFF9 2 = some (0xFFFFFFFFFFFFFFFF, 0xFFFFFFFFFFFFFFFD) ∧
    hilo 0x0022001A 0xFFFFFFFF80000000 0xFFFFFFFFFFFFFFFF = some (0, 0xFFFFFFFF80000000) ∧
    hilo 0x0022001B 0xFFFFFFFF80000000 0xFFFFFFFFFFFFFFFF = some (0xFFFFFFFF80000000, 0) ∧
    hilo 0x0022001B 0xFFFFFFFF80000000 0xFFFFFFFFFFFFFFFF = some (0xFFFFFFFF80000000, 0) ∧
    hilo 0x0022001E 7 0xFFFFFFFFFFFFFFFE = some (1, 0xFFFFFFFFFFFFFFFD) ∧
    hilo 0x0022001E 0x8000000000000000 0xFFFFFFFFFFFFFFFF = some (0, 0x8000000000000000) ∧
    hilo 0x0022001F 0x8000000000000000 0xFFFFFFFFFFFFFFFF = some (0x8000000000000000, 0) ∧
    hilo 0x0022001F 0x8000000000000000 0xFFFFFFFFFFFFFFFF = some (0x8000000000000000, 0) := by and_intros <;> decide +kernel

/-- r2 after a load, big-endian and little-endian. -/
def loads (w : Word) : Option DWord × Option DWord := (ran w (data true) (·.gprHeld 2), ran w (data false) (·.gprHeld 2))

/-- The bytes at 0x100 to 0x107 after a store, read as one number, big-endian and little-endian. -/
def stores (w : Word) : Option Nat × Option Nat :=
  (ran w (data true) (bytesFrom 0x100), ran w (data false) (bytesFrom 0x100))

/-- 96_test_vectors B4. -/
theorem test_load :
    loads 0x80820003 = (some 0x44, some 0x44) ∧
    loads 0x80820007 = (some 0xFFFFFFFFFFFFFF88, some 0xFFFFFFFFFFFFFF88) ∧
    loads 0x90820007 = (some 0x88, some 0x88) ∧
    loads 0x84820002 = (some 0x3344, some 0x4433) ∧
    loads 0x84820006 = (some 0x7788, some 0xFFFFFFFFFFFF8877) ∧
    loads 0x94820006 = (some 0x7788, some 0x8877) ∧
    loads 0x8C820004 = (some 0x55667788, some 0xFFFFFFFF88776655) ∧
    loads 0x9C820004 = (some 0x55667788, some 0x88776655) ∧
    loads 0xDC820000 = (some 0x1122334455667788, some 0x8877665544332211) ∧
    loads 0x88820001 = (some 0x22334418, some 0x22110718) ∧
    loads 0x88820007 = (some 0xFFFFFFFF88F60718, some 0xFFFFFFFF88776655) ∧
    loads 0x98820001 = (some 0xFFFFFFFFE5F61122, some 0xFFFFFFFFE5443322) ∧
    loads 0x98820007 = (some 0x55667788, some 0xFFFFFFFFE5F60788) ∧
    loads 0x68820003 = (some 0x4455667788F60718, some 0x44332211E5F60718) ∧
    loads 0x6C820002 = (some 0xA1B2C3D4E5112233, some 0xA1B2887766554433) := by and_intros <;> decide +kernel

/-- 96_test_vectors B4. -/
theorem test_store :
    stores 0xA0820005 =
      (some 0x1122334455187788, some 0x1122334455187788) ∧
    stores 0xA4820006 =
      (some 0x1122334455660718, some 0x1122334455661807) ∧
    stores 0xAC820004 =
      (some 0x11223344E5F60718, some 0x112233441807F6E5) ∧
    stores 0xFC820000 =
      (some 0xA1B2C3D4E5F60718, some 0x1807F6E5D4C3B2A1) ∧
    stores 0xA8820001 =
      (some 0x11E5F60755667788, some 0xF6E5334455667788) ∧
    stores 0xB8820002 =
      (some 0xF607184455667788, some 0x1122180755667788) ∧
    stores 0xB0820003 =
      (some 0x112233A1B2C3D4E5, some 0xD4C3B2A155667788) ∧
    stores 0xB4820002 =
      (some 0xF607184455667788, some 0x11221807F6E5D4C3) := by and_intros <;> decide +kernel

/-- Run at 0xFFFFFFFF80001000: whether the delay slot runs, where control then goes, r31. -/
def branched (w : Word) (a b : DWord) : Option (Bool × DWord × DWord) :=
  ran w (withRegs bench [(1, a), (2, b)]) fun t => (t.pending.isSome, leads t, t.gprHeld 31)

/-- 96_test_vectors B5. -/
theorem test_branch_1 :
    branched 0x10220003 5 5 = some (true, 0xFFFFFFFF80001010, 0) ∧
    branched 0x10220003 5 6 = some (true, 0xFFFFFFFF80001008, 0) ∧
    branched 0x50220003 5 5 = some (true, 0xFFFFFFFF80001010, 0) ∧
    branched 0x50220003 5 6 = some (false, 0xFFFFFFFF80001008, 0) ∧
    branched 0x1422FFFD 5 6 = some (true, 0xFFFFFFFF80000FF8, 0) ∧
    branched 0x1422FFFD 5 5 = some (true, 0xFFFFFFFF80001008, 0) ∧
    branched 0x5422FFFD 5 6 = some (true, 0xFFFFFFFF80000FF8, 0) ∧
    branched 0x5422FFFD 5 5 = some (false, 0xFFFFFFFF80001008, 0) ∧
    branched 0x18200002 0 0 = some (true, 0xFFFFFFFF8000100C, 0) ∧
    branched 0x18200002 1 0 = some (true, 0xFFFFFFFF80001008, 0) ∧
    branched 0x58200002 0 0 = some (true, 0xFFFFFFFF8000100C, 0) ∧
    branched 0x58200002 1 0 = some (false, 0xFFFFFFFF80001008, 0) ∧
    branched 0x1C200002 0 0 = some (true, 0xFFFFFFFF80001008, 0) ∧
    branched 0x1C200002 1 0 = some (true, 0xFFFFFFFF8000100C, 0) ∧
    branched 0x5C200002 0 0 = some (false, 0xFFFFFFFF80001008, 0) ∧
    branched 0x5C200002 1 0 = some (true, 0xFFFFFFFF8000100C, 0) := by and_intros <;> decide +kernel

/-- 96_test_vectors B5. -/
theorem test_branch_2 :
    branched 0x04200002 0 0 = some (true, 0xFFFFFFFF80001008, 0) ∧
    branched 0x04200002 0xFFFFFFFFFFFFFFFF 0 = some (true, 0xFFFFFFFF8000100C, 0) ∧
    branched 0x04220002 0 0 = some (false, 0xFFFFFFFF80001008, 0) ∧
    branched 0x04220002 0xFFFFFFFFFFFFFFFF 0 = some (true, 0xFFFFFFFF8000100C, 0) ∧
    branched 0x04300002 0 0 = some (true, 0xFFFFFFFF80001008, 0xFFFFFFFF80001008) ∧
    branched 0x04300002 0xFFFFFFFFFFFFFFFF 0 = some (true, 0xFFFFFFFF8000100C, 0xFFFFFFFF80001008) ∧
    branched 0x04320002 0 0 = some (false, 0xFFFFFFFF80001008, 0xFFFFFFFF80001008) ∧
    branched 0x04320002 0xFFFFFFFFFFFFFFFF 0 = some (true, 0xFFFFFFFF8000100C, 0xFFFFFFFF80001008) ∧
    branched 0x04210002 0 0 = some (true, 0xFFFFFFFF8000100C, 0) ∧
    branched 0x04210002 0xFFFFFFFFFFFFFFFF 0 = some (true, 0xFFFFFFFF80001008, 0) ∧
    branched 0x04230002 0 0 = some (true, 0xFFFFFFFF8000100C, 0) ∧
    branched 0x04230002 0xFFFFFFFFFFFFFFFF 0 = some (false, 0xFFFFFFFF80001008, 0) ∧
    branched 0x04310002 0 0 = some (true, 0xFFFFFFFF8000100C, 0xFFFFFFFF80001008) ∧
    branched 0x04310002 0xFFFFFFFFFFFFFFFF 0 = some (true, 0xFFFFFFFF80001008, 0xFFFFFFFF80001008) ∧
    branched 0x04330002 0 0 = some (true, 0xFFFFFFFF8000100C, 0xFFFFFFFF80001008) ∧
    branched 0x04330002 0xFFFFFFFFFFFFFFFF 0 = some (false, 0xFFFFFFFF80001008, 0xFFFFFFFF80001008) := by and_intros <;> decide +kernel

/-- Whether the word takes the Trap exception; it changes nothing else but pc. -/
def trapped (w : Word) (a b : DWord) : Option (Bool × Word × DWord) :=
  ran w (withRegs bench [(1, a), (2, b)]) fun t => (t.exc, t.cp0.cause, t.pc)

/-- 96_test_vectors B6. -/
theorem test_trap :
    trapped 0x00220030 0xFFFFFFFF 0xFFFFFFFFFFFFFFFF = some (true, 0x34, 0xFFFFFFFF80000180) ∧
    trapped 0x00220030 0xFFFFFFFFFFFFFFFF 0 = some (false, 0, 0xFFFFFFFF80001004) ∧
    trapped 0x00220031 0x8000000000000000 1 = some (true, 0x34, 0xFFFFFFFF80000180) ∧
    trapped 0x00220031 0 0xFFFFFFFFFFFFFFFF = some (false, 0, 0xFFFFFFFF80001004) ∧
    trapped 0x00220032 0x8000000000000000 1 = some (true, 0x34, 0xFFFFFFFF80000180) ∧
    trapped 0x00220032 0 0 = some (false, 0, 0xFFFFFFFF80001004) ∧
    trapped 0x00220033 0xFFFFFFFF 0xFFFFFFFFFFFFFFFF = some (true, 0x34, 0xFFFFFFFF80000180) ∧
    trapped 0x00220033 0 0 = some (false, 0, 0xFFFFFFFF80001004) ∧
    trapped 0x00220034 0 0 = some (true, 0x34, 0xFFFFFFFF80000180) ∧
    trapped 0x00220034 0xFFFFFFFFFFFFFFFF 0 = some (false, 0, 0xFFFFFFFF80001004) ∧
    trapped 0x00220036 0xFFFFFFFF 0xFFFFFFFFFFFFFFFF = some (true, 0x34, 0xFFFFFFFF80000180) ∧
    trapped 0x00220036 0 0 = some (false, 0, 0xFFFFFFFF80001004) ∧
    trapped 0x0428FFFF 0xFFFF 0 = some (true, 0x34, 0xFFFFFFFF80000180) ∧
    trapped 0x04280000 0xFFFFFFFFFFFFFFFF 0 = some (false, 0, 0xFFFFFFFF80001004) ∧
    trapped 0x04298000 0xFFFFFFFFFFFF8000 0 = some (true, 0x34, 0xFFFFFFFF80000180) ∧
    trapped 0x0429FFFF 0 0 = some (false, 0, 0xFFFFFFFF80001004) ∧
    trapped 0x042A7FFF 0x8000000000000000 0 = some (true, 0x34, 0xFFFFFFFF80000180) ∧
    trapped 0x042A0000 0 0 = some (false, 0, 0xFFFFFFFF80001004) ∧
    trapped 0x042BFFFF 0xFFFF 0 = some (true, 0x34, 0xFFFFFFFF80000180) ∧
    trapped 0x042B0000 0 0 = some (false, 0, 0xFFFFFFFF80001004) ∧
    trapped 0x042C8000 0xFFFFFFFFFFFF8000 0 = some (true, 0x34, 0xFFFFFFFF80000180) ∧
    trapped 0x042C0000 0xFFFFFFFFFFFFFFFF 0 = some (false, 0, 0xFFFFFFFF80001004) ∧
    trapped 0x042EFFFF 0xFFFF 0 = some (true, 0x34, 0xFFFFFFFF80000180) ∧
    trapped 0x042E0000 0 0 = some (false, 0, 0xFFFFFFFF80001004) := by and_intros <;> decide +kernel

/-- A floating-point word run with FCR31 = `f`, f2 = `a`, f4 = `b` and f0 = 0: f0, none for the exception, and FCR31. -/
def fpu (w : Word) (f : Word) (a b : DWord) : Option (Option DWord × Word) :=
  ran w { bench with fcr31 := f, fgr := (bench.fgr.set 2 a).set 4 b } fun t =>
    (if t.exc then (if t.cp0.cause = 0x3C#32 ∧ t.fgr[0] = 0 then none else some 0xBAD) else some t.fgr[0], t.fcr31)

/-- 97_test_vectors B16. -/
theorem test_fp_arith_1 :
    fpu 0x46241000 0x2 0x3FF0000000000000 0x3CA0000000000000 = some (some 0x3FF0000000000001, 0x1006) ∧
    fpu 0x46041000 0x800 0x7F800000 0xFF800000 = some (none, 0x10800) ∧
    fpu 0x46041001 0x1000002 0x800000 0xC00000 = some (some 0x80000000, 0x100300E) ∧
    fpu 0x46041001 0x0 0x800000 0xC00000 = some (none, 0x20000) ∧
    fpu 0x46241002 0x2 0x7FE0000000000000 0xC000000000000000 = some (some 0xFFEFFFFFFFFFFFFF, 0x5016) ∧
    fpu 0x46041002 0x0 0x800000 0x3F000000 = some (none, 0x20000) ∧
    fpu 0x46241003 0x0 0x3FF0000000000000 0x4008000000000000 = some (some 0x3FD5555555555555, 0x1004) ∧
    fpu 0x46041003 0x400 0x3F800000 0x80000000 = some (none, 0x8400) ∧
    fpu 0x46001004 0x0 0xFF800000 0x0 = some (some 0x7FBFFFFF, 0x10040) ∧
    fpu 0x46201004 0x0 0x4000000000000000 0x0 = some (some 0x3FF6A09E667F3BCD, 0x1004) ∧
    fpu 0x46001005 0x0 0xFFC00000 0x0 = some (some 0x7FBFFFFF, 0x10040) ∧
    fpu 0x46001005 0x0 0xFFBFFFFF 0x0 = some (none, 0x20000) ∧
    fpu 0x46001007 0x0 0x0 0x0 = some (some 0x80000000, 0x0) ∧
    fpu 0x46001007 0x800 0x7FC00001 0x0 = some (none, 0x10800) := by and_intros <;> decide +kernel

/-- 97_test_vectors B17. -/
theorem test_fp_convert_1 :
    fpu 0x4600100C 0x3 0xBF000000 0x0 = some (some 0x0, 0x1007) ∧
    fpu 0x4620100C 0x0 0x41DFFFFFFFE00000 0x0 = some (none, 0x20000) ∧
    fpu 0x4620100D 0x0 0x41DFFFFFFFE00000 0x0 = some (some 0x7FFFFFFF, 0x1004) ∧
    fpu 0x4620100D 0x0 0x41E0000000000000 0x0 = some (none, 0x20000) ∧
    fpu 0x4600100E 0x3 0xBF000000 0x0 = some (some 0x0, 0x1007) ∧
    fpu 0x4600100E 0x0 0x7F800000 0x0 = some (none, 0x20000) ∧
    fpu 0x4600100F 0x0 0xBF000000 0x0 = some (some 0xFFFFFFFF, 0x1004) ∧
    fpu 0x4620100F 0x0 0xC1E0000000100000 0x0 = some (none, 0x20000) ∧
    fpu 0x46001024 0x3 0x40200000 0x0 = some (some 0x2, 0x1007) ∧
    fpu 0x46001024 0x80 0x40200000 0x0 = some (none, 0x1080) ∧
    fpu 0x46201024 0x3 0xC002000000000000 0x0 = some (some 0xFFFFFFFD, 0x1007) ∧
    fpu 0x46201024 0x0 0xC002000000000000 0x0 = some (some 0xFFFFFFFE, 0x1004) ∧
    fpu 0x46201008 0x0 0xC002000000000000 0x0 = some (some 0xFFFFFFFFFFFFFFFE, 0x1004) ∧
    fpu 0x46201008 0x0 0x4004000000000000 0x0 = some (some 0x2, 0x1004) ∧
    fpu 0x46001009 0x0 0xC0300000 0x0 = some (some 0xFFFFFFFFFFFFFFFE, 0x1004) ∧
    fpu 0x46201009 0x0 0x4004000000000000 0x0 = some (some 0x2, 0x1004) := by and_intros <;> decide +kernel

/-- 97_test_vectors B17. -/
theorem test_fp_convert_2 :
    fpu 0x4620100A 0x0 0xC002000000000000 0x0 = some (some 0xFFFFFFFFFFFFFFFE, 0x1004) ∧
    fpu 0x4620100A 0x0 0x4004000000000000 0x0 = some (some 0x3, 0x1004) ∧
    fpu 0x4620100B 0x0 0xC002000000000000 0x0 = some (some 0xFFFFFFFFFFFFFFFD, 0x1004) ∧
    fpu 0x4620100B 0x0 0x4004000000000000 0x0 = some (some 0x2, 0x1004) ∧
    fpu 0x46201025 0x0 0xC3E0000000000000 0x0 = some (some 0x8000000000000000, 0x0) ∧
    fpu 0x46201025 0x0 0x43E0000000000000 0x0 = some (none, 0x20000) ∧
    fpu 0x46001025 0x0 0x5EFFFFFF 0x0 = some (some 0x7FFFFF8000000000, 0x0) ∧
    fpu 0x46801020 0x1 0x7FFFFFFF 0x0 = some (some 0x4EFFFFFF, 0x1005) ∧
    fpu 0x46801020 0x0 0x1000001 0x0 = some (some 0x4B800000, 0x1004) ∧
    fpu 0x46A01020 0x0 0x7FFFFFFFFFFFFFFF 0x0 = some (some 0x5F000000, 0x1004) ∧
    fpu 0x46801021 0x0 0x7 0x0 = some (some 0x401C000000000000, 0x0) ∧
    fpu 0x46801021 0x0 0x80000000 0x0 = some (some 0xC1E0000000000000, 0x0) ∧
    fpu 0x46A01021 0x2 0x20000000000001 0x0 = some (some 0x4340000000000001, 0x1006) ∧
    fpu 0x46A01021 0x0 0x20000000000001 0x0 = some (some 0x4340000000000000, 0x1004) ∧
    fpu 0x46001021 0x0 0x7FC00000 0x0 = some (some 0x7FF7FFFFFFFFFFFF, 0x10040) ∧
    fpu 0x46001021 0x0 0x7F800001 0x0 = some (none, 0x20000) := by and_intros <;> decide +kernel

/-- 97_test_vectors B17. -/
theorem test_fp_convert_3 :
    fpu 0x46201020 0x0 0x380FFFFFF0000000 0x0 = some (some 0x800000, 0x1004) ∧
    fpu 0x46201020 0x0 0x3800000000000000 0x0 = some (none, 0x20000) := by and_intros <;> decide +kernel

/-! ### HI, LO, jumps, exceptions -/

/-- 96_test_vectors B3. -/
theorem test_hilo_moves :
    ran 0x00001810 { bench with hi := 0x8000000000000001 } (·.gprHeld 3) = some 0x8000000000000001#64 ∧
    ran 0x00001812 { bench with lo := 0xFFFFFFFF } (·.gprHeld 3) = some 0xFFFFFFFF#64 ∧
    ran 0x00200011 { withRegs bench [(1, 0x123456789ABCDEF0)] with lo := 7 } (fun t => (t.hi, t.lo)) =
      some (0x123456789ABCDEF0#64, 7#64) ∧
    ran 0x00200013 { withRegs bench [(1, 2)] with hiloFresh := true } (fun t => (t.lo, t.hiloFresh)) =
      some (2#64, false) := by and_intros <;> decide +kernel

/-- 96_test_vectors B5: jump targets and links. -/
theorem test_jumps :
    ran 0x08000800 { bench with pc := 0xFFFFFFFF8FFFFFFC } leads = some 0xFFFFFFFF90002000#64 ∧
    ran 0x0AAAAAAA { bench with pc := 0x0000000123456780 } leads = some 0x000000012AAAAAA8#64 ∧
    ran 0x0C000800 { bench with pc := 0xFFFFFFFF8FFFFFFC } (fun t => (leads t, t.gprHeld 31)) =
      some (0xFFFFFFFF90002000#64, 0xFFFFFFFF90000004#64) ∧
    ran 0x00A00008 (withRegs bench [(5, 0x0000000123456780)]) leads = some 0x0000000123456780#64 ∧
    ran 0x00A0F809 (withRegs bench [(5, 0xFFFFFFFF80002000)]) (fun t => (leads t, t.gprHeld 31)) =
      some (0xFFFFFFFF80002000#64, 0xFFFFFFFF80001008#64) ∧
    ran 0x10008000 bench leads = some 0xFFFFFFFF7FFE1004#64 ∧
    ran 0x10000001 { bench with pc := 0xFFFFFFFFFFFFFFF8 } leads = some 0#64 := by and_intros <;> decide +kernel

/-- Cause, EPC, Status and pc after the word. -/
def entered (w : Word) (s : State) : Option (Word × DWord × Word × DWord) :=
  ran w s fun t => (t.cp0.cause, t.cp0.epc, t.cp0.status, t.pc)

/-- 96_test_vectors B6: SYSCALL, BREAK with BEV, SYSCALL with EXL already 1. -/
theorem test_exception_entry :
    entered 0x03FFFFCC (withStatus 1 bench) = some (0x20, 0xFFFFFFFF80001000, 3, 0xFFFFFFFF80000180) ∧
    entered 0x0000000D (withStatus 0x00400001 bench) =
      some (0x24, 0xFFFFFFFF80001000, 0x00400003, 0xFFFFFFFFBFC00380) ∧
    entered 0x0000000C { bench with cp0 := { Cp0.reset with status := 3, cause := 0x80000008, epc := 0x400100 } } =
      some (0x20, 0x400100, 3, 0xFFFFFFFF80000180) := by and_intros <;> decide +kernel

/-- SYNC sends the buffered write (20_memory R157). -/
theorem test_sync :
    ran 0x0000000F { bench with wbuf := [.word 0x100 4 0x1122334400000000] } (fun t => (t.mem, t.wbuf)) =
      some ([(0x100, 0x11), (0x101, 0x22), (0x102, 0x33), (0x103, 0x44)], []) := by decide +kernel

/-- 96_test_vectors B4: alignment, with the address register of the row: Cause, BadVAddr, r2, the bytes. -/
def misaligned (w : Word) : Option (Word × DWord × DWord × Nat) :=
  ran w (data true) fun t => (t.cp0.cause, t.cp0.badVAddr, t.gprHeld 2, bytesFrom 0x100 t)

theorem test_address_errors :
    misaligned 0x8C820002 = some (0x10, 0xFFFFFFFF80000102, 0xA1B2C3D4E5F60718, 0x1122334455667788) ∧
    misaligned 0x84820001 = some (0x10, 0xFFFFFFFF80000101, 0xA1B2C3D4E5F60718, 0x1122334455667788) ∧
    misaligned 0xDC820004 = some (0x10, 0xFFFFFFFF80000104, 0xA1B2C3D4E5F60718, 0x1122334455667788) ∧
    misaligned 0xA4820001 = some (0x14, 0xFFFFFFFF80000101, 0xA1B2C3D4E5F60718, 0x1122334455667788) ∧
    misaligned 0xFC820004 = some (0x14, 0xFFFFFFFF80000104, 0xA1B2C3D4E5F60718, 0x1122334455667788) := by
  and_intros <;> decide +kernel

/-! ### System control -/

/-- 96_test_vectors B7: moves. -/
theorem test_cp0_moves :
    ran 0x40026000 (withStatus 0x3400FF01 bench) (·.gprHeld 2) = some 0x3400FF01#64 ∧
    ran 0x40027000 { bench with cp0 := { bench.cp0 with epc := 0x180001000 } } (·.gprHeld 2) =
      some 0xFFFFFFFF80001000#64 ∧
    ran 0x40227000 { bench with cp0 := { bench.cp0 with epc := 0x180001000 } } (·.gprHeld 2) =
      some 0x180001000#64 ∧
    ran 0x40826000 (withRegs bench [(2, 0x11)]) (·.cp0.status) = some 0x11#32 ∧
    ran 0x40885800 { withRegs bench [(8, 0x200)] with timerInt := true } (fun t => (t.cp0.compare, t.timerInt)) =
      some (0x200#32, false) ∧
    ran 0x40A27000 (withRegs bench [(2, 0x123456789ABCDEF0)]) (·.cp0.epc) = some 0x123456789ABCDEF0#64 := by and_intros <;> decide +kernel

/-- 96_test_vectors B7: privilege, at 0x400100 in User mode, where the usability test comes first. -/
theorem test_privilege :
    entered 0x40026000 { withStatus 0x11 bench with pc := 0x400100 } = some (0x2C, 0x400100, 0x13, 0xFFFFFFFF80000180) ∧
    ran 0x40026000 (withStatus 0x10000011 bench) (·.gprHeld 2) = some 0x10000011#64 ∧
    ran 0x40227000 (withStatus 0x10000011 bench) (·.cp0.cause) = some 0x28#32 ∧
    ran 0x40227000 (withStatus 0x11 bench) (·.cp0.cause) = some 0x2C#32 ∧
    ran 0xBC990000 (withStatus 0x10 bench) (·.cp0.cause) = some 0x2C#32 := by and_intros <;> decide +kernel

/-- 96_test_vectors B7: ERET and WAIT. -/
theorem test_eret_wait :
    ran 0x42000018 { bench with llbit := true, cp0 := { Cp0.reset with status := 0x13, epc := 0x400100 } }
      (fun t => (t.pc, t.cp0.status, t.llbit)) = some (0x400100#64, 0x11#32, false) ∧
    ran 0x42000018 { bench with cp0 := { Cp0.reset with status := 0x400007, errorEpc := 0xFFFFFFFF80001234 } }
      (fun t => (t.pc, t.cp0.status)) = some (0xFFFFFFFF80001234#64, 0x400003#32) ∧
    ran 0x42000020 bench (fun t => (t.standby, t.pc)) = some (true, 0xFFFFFFFF80001004#64) := by and_intros <;> decide +kernel

/-- The registers of vectors B10. -/
def tlbRegs : State :=
  { bench with cp0 := { bench.cp0 with
      index := 7, pageMask := 0x6000, entryHi := 0x40A005, entryLo0 := 0x12307, entryLo1 := 0x12406, random := 40 } }

/-- The entry that TLBWI writes there. -/
def tlbEntry : TlbEntry :=
  { mask := 3, r := 0, vpn2 := 0x204, g := false, asid := 5, lo0 := { pfn := 0x48C, c := 0, d := true, v := true }
    lo1 := { pfn := 0x490, c := 0, d := true, v := true } }

/-- With that entry alone. -/
def tlbState : State := { tlbRegs with tlb := (tlbRegs.tlb.set 7 tlbEntry) }

/-- 96_test_vectors B10. -/
theorem test_tlb :
    ran 0x42000002 tlbRegs (fun t => t.tlb[7]) = some tlbEntry ∧
    ran 0x42000006 tlbRegs (fun t => t.tlb[40]) = some tlbEntry ∧
    ran 0x42000001 { tlbState with cp0 := { bench.cp0 with index := 7 } }
      (fun t => (t.cp0.pageMask, t.cp0.entryHi, t.cp0.entryLo0, t.cp0.entryLo1)) =
      some (0x6000#32, 0x408005#64, 0x12306#64, 0x12406#64) ∧
    ran 0x42000008 { tlbState with cp0 := { bench.cp0 with entryHi := 0x40E005 } } (·.cp0.index) = some 7#32 ∧
    ran 0x42000008 { tlbState with cp0 := { bench.cp0 with entryHi := 0x408006 } } (·.cp0.index) =
      some 0x80000000#32 := by and_intros <;> decide +kernel

/-- 96_test_vectors B10: translations in User mode through that entry. -/
theorem test_translate :
    (withStatus 0x10 tlbState).translate .load 0x409ABC = .ok 0x48DABC 0 ∧
    (withStatus 0x10 tlbState).translate .load 0x40DABC = .ok 0x491ABC 0 ∧
    (withStatus 0x10 tlbState).translate .load 0x410000 = .exc (.tlbRefill 0x410000 false) := by and_intros <;> decide +kernel

/-! ### CACHE, load linked and store conditional -/

/-- Bytes 0 to 31 of a line hold 1 to 32; parity as they should have. -/
def lineData : LineData := 0x201F1E1D1C1B1A191817161514131211100F0E0D0C0B0A090807060504030201

def dirtyLine (tag : BitVec 24) : DLine :=
  (({ DLine.zero with data := lineData, par := byteParities lineData }.retag tag 3)).setW true

def codeLine (tag : BitVec 24) : ILine :=
  { ILine.zero with data := lineData, par := wordPar (byteParities lineData) }.retag tag true

/-- kseg0 cached write-back, r4 at 0xFFFFFFFF80002000; one modified data line (way 1, set 0) and one instruction
line there. -/
def cached : State :=
  { withRegs bench [(4, 0xFFFFFFFF80002000), (2, 0xA1B2C3D4E5F60718)] with
    cp0 := { bench.cp0 with config := 0x1000E4B3 }
    dcache := [(256, dirtyLine 2)], icache := [(256, codeLine 2)] }

/-- 96_test_vectors B11: the data cache. -/
theorem test_cache_data :
    ran 0xBC990000 cached (fun t => ((t.dline 256).state, (t.dline 256).w, t.wbuf, t.cp0.status.getLsbD 18)) =
      some (3, false, [.line 0x2000 lineData (byteParities lineData) true (false, 256)], true) ∧
    ran 0xBC950000 cached (fun t => ((t.dline 256).state, t.wbuf)) = some (0, [.line 0x2000 lineData (byteParities lineData) false (false, 256)]) ∧
    ran 0xBC910000 cached (fun t => ((t.dline 256).state, t.wbuf)) = some (0, []) ∧
    ran 0xBC810000 cached (fun t => ((t.dline 256).state, t.wbuf)) = some (0, [.line 0x2000 lineData (byteParities lineData) false (false, 256)]) ∧
    ran 0xBC850000 cached (·.cp0.ecc) = some 0xD3#32 ∧
    ran 0xBC890000 cached (fun t => ((t.dline 256).tag, (t.dline 256).state)) = some (0, 0) := by and_intros <;> decide +kernel

/-- 96_test_vectors B11: the instruction cache. -/
theorem test_cache_instr :
    ran 0xBC900000 cached (fun t => ((t.iline 256).valid, t.cp0.status.getLsbD 18)) = some (false, true) ∧
    ran 0xBC800000 cached (fun t => ((t.iline 256).valid, (t.iline 256).tag)) = some (false, 2) ∧
    ran 0xBC940020 { cached with mem := [(0x2021, 0xAB)] }
      (fun t => ((t.iline 257).valid, (t.iline 257).tag, lineByte (t.iline 257).data 1)) = some (true, 2, 0xAB) := by
  and_intros <;> decide +kernel

/-- 96_test_vectors B11: an undefined operation. -/
theorem test_cache_undefined : exec (.cache 4 2 0) cached = .refused .cacheOpUndefined := rfl

/-- A load and a store that hit the data cache (22_caches R251, R253): big-endian bytes 1, 2, 3, 4. -/
theorem test_cached_access :
    ran 0x8C820000 cached (·.gprHeld 2) = some 0x01020304#64 ∧
    ran 0xAC820000 cached (fun t => (lineByte (t.dline 256).data 0, lineByte (t.dline 256).data 3, t.wbuf)) =
      some (0xE5, 0x18, []) := by and_intros <;> decide +kernel

/-- As 96_test_vectors B8: LL, LLD, SC, SCD of a cached location, and SC without the link. -/
theorem test_linked :
    ran 0xC0820000 cached (fun t => (t.gprHeld 2, t.llbit, t.cp0.llAddr)) = some (0x01020304#64, true, 0x200#32) ∧
    ran 0xD0820000 cached (fun t => (t.gprHeld 2, t.llbit)) = some (0x0102030405060708#64, true) ∧
    ran 0xE0820000 { cached with llbit := true } (fun t => (t.gprHeld 2, lineByte (t.dline 256).data 3)) =
      some (1#64, 0x18) ∧
    ran 0xF0820000 { cached with llbit := true } (fun t => (t.gprHeld 2, lineByte (t.dline 256).data 0)) =
      some (1#64, 0xA1) ∧
    ran 0xE0820000 cached (fun t => (t.gprHeld 2, t.dcache == cached.dcache)) = some (0#64, true) := by and_intros <;> decide +kernel

/-! ### Coprocessors -/

/-- Cause after the word in Kernel mode with no coprocessor usable but 0. -/
def refusedUnit (w : Word) : Option Word := ran w (withStatus 0 (data true)) (·.cp0.cause)

/-- 96_test_vectors B9: usability, and Reserved Instruction for CFC0 and CTC0. -/
theorem test_unusable :
    refusedUnit 0xC4820000 = some 0x1000002C ∧
    refusedUnit 0x46002086 = some 0x1000002C ∧
    refusedUnit 0x45010003 = some 0x1000002C ∧
    refusedUnit 0x48021800 = some 0x2000002C ∧
    refusedUnit 0xC8820000 = some 0x2000002C ∧
    refusedUnit 0x49010001 = some 0x2000002C ∧
    refusedUnit 0x48C20000 = some 0x2000002C ∧
    refusedUnit 0x48821800 = some 0x2000002C ∧
    refusedUnit 0x48420000 = some 0x2000002C ∧
    refusedUnit 0x48221800 = some 0x2000002C ∧
    refusedUnit 0x48A21800 = some 0x2000002C ∧
    refusedUnit 0x4A000000 = some 0x2000002C ∧
    refusedUnit 0xD8820004 = some 0x2000002C ∧
    refusedUnit 0xE8820000 = some 0x2000002C ∧
    refusedUnit 0xF8820000 = some 0x2000002C ∧
    refusedUnit 0x49000001 = some 0x2000002C ∧
    refusedUnit 0x49020001 = some 0x2000002C ∧
    refusedUnit 0x49030001 = some 0x2000002C ∧
    refusedUnit 0x40400000 = some 0x28 ∧
    refusedUnit 0x40C00000 = some 0x28 := by and_intros <;> decide +kernel

/-- 96_test_vectors B9: coprocessor 2 without a unit; the branches of coprocessor 0 in User mode. -/
theorem test_coprocessors :
    ran 0xD8820004 (data true) (fun t => (t.cp0.cause, t.cp0.badVAddr)) = some (0x10#32, 0xFFFFFFFF80000104#64) ∧
    ran 0x48A21800 (data true) (fun t => (t.exc, t.pc)) = some (false, 0xFFFFFFFF80001004#64) ∧
    ran 0x41000001 (withStatus 0x10 bench) (·.cp0.cause) = some 0x2C#32 ∧
    ran 0x41010001 (withStatus 0x10 bench) (·.cp0.cause) = some 0x2C#32 ∧
    ran 0x41020001 (withStatus 0x10 bench) (·.cp0.cause) = some 0x2C#32 ∧
    ran 0x41030001 (withStatus 0x10 bench) (·.cp0.cause) = some 0x2C#32 := by and_intros <;> decide +kernel

/-- The registers and memory of vectors B14. -/
def fpState : State :=
  { withRegs bench [(4, 0xFFFFFFFF80002000), (2, 0xDEADBEEF80000001)] with
    mem := [(0x2000, 0x01), (0x2001, 0x23), (0x2002, 0x45), (0x2003, 0x67), (0x2004, 0x89), (0x2005, 0xAB),
      (0x2006, 0xCD), (0x2007, 0xEF)]
    fgr := (((bench.fgr.set 2 0x1111222233334444).set 3 0x5555666677778888).set 4 0x9999AAAABBBBCCCC).set 5
      0x0F0F0F0FF0F0F0F0 }

/-- 97_test_vectors B14. -/
theorem test_fp_memory :
    ran 0xC4820000 fpState (·.fgr[2]) = some 0x1111222201234567#64 ∧
    ran 0xC4830000 fpState (·.fgr[2]) = some 0x0123456733334444#64 ∧
    ran 0xD4820000 fpState (·.fgr[2]) = some 0x0123456789ABCDEF#64 ∧
    ran 0xE4830004 fpState (bytesFrom 0x2000) = some 0x0123456711112222 ∧
    ran 0xE4820004 fpState (bytesFrom 0x2000) = some 0x0123456733334444 ∧
    ran 0xF4820000 fpState (bytesFrom 0x2000) = some 0x1111222233334444 := by and_intros <;> decide +kernel

/-- 97_test_vectors B14 and B15. -/
theorem test_fp_moves :
    ran 0x44822000 fpState (·.fgr[4]) = some 0x9999AAAA80000001#64 ∧
    ran 0x44822800 fpState (·.fgr[4]) = some 0x80000001BBBBCCCC#64 ∧
    ran 0x44022000 fpState (·.gprHeld 2) = some 0xFFFFFFFFBBBBCCCC#64 ∧
    ran 0x44022800 fpState (·.gprHeld 2) = some 0xFFFFFFFF9999AAAA#64 ∧
    ran 0x44A22000 fpState (·.fgr[4]) = some 0xDEADBEEF80000001#64 ∧
    ran 0x44222000 fpState (·.gprHeld 2) = some 0x9999AAAABBBBCCCC#64 ∧
    ran 0x460028C6 fpState (·.fgr[2]) = some 0x9999AAAA33334444#64 ∧
    ran 0x46202086 { fpState with fcr31 := 0x1007F } (fun t => (t.fgr[2], t.fcr31)) =
      some (0x9999AAAABBBBCCCC#64, 0x7F#32) ∧
    ran 0x46802086 fpState (fun t => (t.exc, t.fcr31)) = some (true, 0x20000#32) ∧
    ran 0x4442F800 { bench with fcr31 := 0x1004 } (·.gprHeld 2) = some 0x1004#64 ∧
    ran 0x44420000 bench (·.gprHeld 2) = some 0x2100#64 := by and_intros <;> decide +kernel

/-- FCR31 after CTC1 of `v`, and whether the exception is taken. -/
def ctc (v : DWord) : Option (Word × Bool) := ran 0x44C2F800 (withRegs bench [(2, v)]) fun t => (t.fcr31, t.exc)

/-- 97_test_vectors B15. -/
theorem test_ctc1 :
    ctc 0xF83 = some (0xF83, false) ∧
    ctc 0xFE7C0000 = some (0x0, false) ∧
    ctc 0xFFFFFFFF = some (0x183FFFF, true) ∧
    ctc 0x10000 = some (0x10000, false) ∧
    ctc 0x10800 = some (0x10800, true) ∧
    ctc 0x1F00 = some (0x1F00, false) ∧
    ctc 0x20000 = some (0x20000, true) := by and_intros <;> decide +kernel

/-- A branch on the condition with FCR31 as given: whether the slot runs, where control goes. -/
def bc (w f : Word) : Option (Bool × DWord) := ran w { bench with fcr31 := f } fun t => (t.pending.isSome, leads t)

/-- 97_test_vectors B15. -/
theorem test_bc1 :
    bc 0x45010003 0x800000 = some (true, 0xFFFFFFFF80001010) ∧
    bc 0x45010003 0x0 = some (true, 0xFFFFFFFF80001008) ∧
    bc 0x45000003 0x0 = some (true, 0xFFFFFFFF80001010) ∧
    bc 0x45000003 0x800000 = some (true, 0xFFFFFFFF80001008) ∧
    bc 0x45030003 0x800000 = some (true, 0xFFFFFFFF80001010) ∧
    bc 0x45030003 0x0 = some (false, 0xFFFFFFFF80001008) ∧
    bc 0x45020003 0x0 = some (true, 0xFFFFFFFF80001010) ∧
    bc 0x45020003 0x800000 = some (false, 0xFFFFFFFF80001008) := by and_intros <;> decide +kernel

/-- FCR31 after a compare. -/
def compared (w : Word) (a b : DWord) : Option Word :=
  ran w { bench with fgr := (bench.fgr.set 2 a).set 4 b } (·.fcr31)

/-- 97_test_vectors B18: C.OLT, C.NGE, C.EQ, C.UN, C.LT. -/
theorem test_compare :
    compared 0x46041034 0x3F800000 0x40000000 = some 0x800000 ∧
    compared 0x46041034 0x40000000 0x40000000 = some 0x0 ∧
    compared 0x4604103D 0x40000000 0x3F800000 = some 0x0 ∧
    compared 0x4604103D 0x7FBFFFFF 0x3F800000 = some 0x810040 ∧
    compared 0x46041032 0x0 0x80000000 = some 0x800000 ∧
    compared 0x46041031 0x7FBFFFFF 0x3F800000 = some 0x800000 ∧
    compared 0x4604103C 0xFF800000 0xFF7FFFFF = some 0x800000 ∧
    ran 0x4604103D { bench with fcr31 := 0x800, fgr := (bench.fgr.set 2 0x7FBFFFFF).set 4 0x3F800000 }
      (fun t => (t.exc, t.fcr31)) = some (true, 0x10800#32) := by and_intros <;> decide +kernel

/-! ### Whole steps -/

/-- A step fetches the word at pc and runs it: ADD r3, r1, r2 (96_test_vectors B1). -/
theorem test_step :
    stepped ((withRegs bench [(1, 5), (2, 7)]).withFetchWord 32 0x00221820) (fun t => (t.gprHeld 3, t.pc)) =
      some (12#64, 0xFFFFFFFF80001004#64) ∧
    stepped (State.reset.withFetchWord 32 0x34218000) (fun t => (t.gprHeld 1, t.pc)) =
      some (0x8000#64, 0xFFFFFFFFBFC00004#64) := by and_intros <;> decide +kernel

/-- 96_test_vectors B12, B13: a reserved word; an interrupt on Int*(0), enabled and masked. -/
theorem test_step_exceptions :
    stepped (bench.withFetchWord 32 0x00000001) (·.cp0.cause) = some 0x28#32 ∧
    stepped { withStatus 0x401 bench with intPins := 1 }
      (fun t => (t.cp0.status, t.cp0.epc, t.pc, t.cause)) =
      some (0x403#32, 0xFFFFFFFF80001000#64, 0xFFFFFFFF80000180#64, 0x400#32) ∧
    stepped { withStatus 0x801 bench with intPins := 1 } (·.pc) = some 0xFFFFFFFF80001004#64 := by and_intros <;> decide +kernel

/-- 96_test_vectors B13: soft reset and the timer. -/
theorem test_reset_timer :
    stepped { withStatus 0x2000FF01 bench with
        pc := 0xFFFFFFFF80001234
        inputs := [{ intPins := 0, nmi := false, extRqst := false, reset := .soft, requests := [], between := [] }] }
      (fun t => (t.cp0.errorEpc, t.cp0.status, t.pc)) =
      some (0xFFFFFFFF80001234#64, 0x2050FF05#32, 0xFFFFFFFFBFC00000#64) ∧
    { bench with countPhase := 1, cp0 := { bench.cp0 with count := 0xFFFFFFFF } }.tick.cp0.count = 0#32 ∧
    { bench with countPhase := 1, cp0 := { bench.cp0 with count := 0xFFFFFFFF } }.tick.timerInt = true := by and_intros <;> decide +kernel


/-! ### The system interface (61_system_interface R815, R816) -/

/-- R815: the order of the doublewords of a block for each doubleword asked for. -/
theorem test_subblock_order :
    (List.range 4).map (subblock 0) = [0, 1, 2, 3] ∧ (List.range 4).map (subblock 1) = [1, 0, 3, 2] ∧
    (List.range 4).map (subblock 2) = [2, 3, 0, 1] ∧ (List.range 4).map (subblock 3) = [3, 2, 1, 0] := by
  and_intros <;> decide +kernel

/-- R816: commands and data identifiers of the processor; the reserved bits `u` are 0 here. -/
theorem test_identifiers :
    (BusReq.blockRead 0 false).sysCmd = 0x011 ∧ (BusReq.read 0 4).sysCmd = 0x01B ∧
    (BusReq.read 0 8).sysCmd = 0x01F ∧ (BusReq.blockWrite 0 false []).sysCmd = 0x051 ∧
    (BusReq.write 0 1 { id := 0, data := 0, check := 0 }).sysCmd = 0x058 ∧ writeId true false 0 = 0x140 ∧
    writeId false false 0 = 0x1C0 ∧ readId true false = 0x10F ∧ readId false false = 0x18F := by
  and_intros <;> decide +kernel

/-- R817: even parity, and the four doublewords of a block write in order. -/
theorem test_line_cycles :
    checkBits 0x0000000000000101 = 0x03 ∧
    lineCycles true lineData (byteParities lineData) (fun _ => 0) =
      [{ id := 0x1C0, data := 0x0102030405060708, check := checkBits 0x0102030405060708 },
       { id := 0x1C0, data := 0x090A0B0C0D0E0F10, check := checkBits 0x090A0B0C0D0E0F10 },
       { id := 0x1C0, data := 0x1112131415161718, check := checkBits 0x1112131415161718 },
       { id := 0x140, data := 0x191A1B1C1D1E1F20, check := checkBits 0x191A1B1C1D1E1F20 }] := by
  and_intros <;> decide +kernel

/-- One step's input. -/
def resetInput (r : ResetInput) (nmi : Bool) : Input :=
  { intPins := 0, nmi := nmi, extRqst := false, reset := r, requests := [], between := [] }

def asks (l : List ExtRequest) (nmi : Bool) : Input := { resetInput .none nmi with requests := l }

/-- R816 (g): an external write sets Int bit 2 and clears the NMI bit. -/
theorem test_external_write :
    stepped { bench with
        intReg := 0x41, nmiPrev := true
        inputs := [asks [.command 0x05B 0 [{ id := 0x14F, data := 0x440004, check := 0 }]] false] }
      (fun t => (t.intReg, t.cause)) = some (5#7, 0x1400#32) := by decide +kernel

/-- LW r2, 0(r4) from a region that does not answer, in the fourth step of a run whose NMI level is 1 in the second:
it waits, the response is taken, then the nonmaskable interrupt (R768, R783; 60_exceptions R734). -/
def waiting : State :=
  { (data true).withFetchWord 32 0x8C820000 with
    cfg := { Params.reset with physMap := [{ base := 0x100, size := 8, kind := .noResponse, sizes := [] }] }
    inputs := [asks [] false, asks [] true,
      asks [.response [{ id := 0x10F, data := 0x99AABBCCDDEEFF00, check := checkBits 0x99AABBCCDDEEFF00 }]] false,
      asks [] false] }

def stepTwice (s : State) : Option State := (stepped s id).bind fun t => stepped t id

theorem test_waiting_read :
    (stepTwice waiting).map (fun t => (t.busWait.isSome, t.slave, t.nmiLatch, t.gprHeld 2)) =
      some (true, true, true, 0xA1B2C3D4E5F60718#64) ∧
    ((stepTwice waiting).bind stepTwice).map (fun t => (t.busWait.isSome, t.gprHeld 2, t.pc, t.cp0.errorEpc)) =
      some (false, 0xFFFFFFFF99AABBCC#64, 0xFFFFFFFFBFC00000#64, 0xFFFFFFFF80001004#64) := by
  and_intros <;> decide +kernel

/-- R787: an erroneous response is a data bus error. -/
theorem test_bus_error :
    (((stepTwice { waiting with inputs := [asks [] false,
        asks [.response [{ id := 0x12F, data := 0, check := 0 }]] false] })).map fun t => (t.cp0.cause, t.gprHeld 2)) =
      some (0x1C#32, 0xA1B2C3D4E5F60718#64) := by decide +kernel

/-- R788, 60_exceptions R696: a response both erroneous and of bad parity is a Cache Error, on the bus. -/
theorem test_cache_error_before_bus_error :
    (stepTwice { waiting with inputs := [asks [] false,
        asks [.response [{ id := 0x12F, data := 0, check := 1 }]] false] }).map (fun t =>
          (t.cp0.cause, t.cp0.cacheErr.extractLsb' 26 6, t.pc)) =
      some (0#32, 0x21#6, 0xFFFFFFFFA0000100#64) := by decide +kernel

/-- 92_eei_decisions D1: words answered, blocks not. -/
theorem test_phys_map_by_size :
    let c := { Params.reset with physMap := [{ base := 0, size := 0x1000, kind := .busError, sizes := [32] }] }
    c.kindAt 0x100 4 = none ∧ c.kindAt 0x100 32 = some .busError := by decide +kernel

/-- R794: a null request while ExtRqst stays asserted; the uncached fetch waits until it is not. -/
theorem test_string_of_requests :
    let s := { bench with inputs := [{ asks [.command 0x060 0 []] false with extRqst := true }, asks [] false] }
    stepped s (fun t => (t.pc, t.slave)) = some (bench.pc, false) ∧
    (stepTwice s).map (·.pc) = some (bench.pc + 4) := by decide +kernel

/-- The line `w` at pc in the instruction cache, the system interface in slave state. -/
def slaveCode (w : LineData) : State :=
  { cached with
    slave := true, pc := 0xFFFFFFFF80001000
    icache := [(128, { codeLine 1 with data := w, par := wordPar (byteParities w) })] }

/-- 22_caches R262: a CACHE operation waits for an external request, one that finds bad parity too; an instruction that
needs no bus does not. -/
theorem test_cache_op_waits :
    stepped (slaveCode 0x000091BC) (fun t => (t.pc, (t.dline 256).state)) = some (0xFFFFFFFF80001000, 3) ∧
    stepped { slaveCode 0x000091BC with slave := false } (fun t => (t.pc, (t.dline 256).state)) =
      some (0xFFFFFFFF80001004, 0) ∧
    stepped { slaveCode 0x000099BC with dcache := [(256, { dirtyLine 2 with par := 0 })] } (fun t => (t.pc, t.wbuf)) =
      some (0xFFFFFFFF80001000, []) ∧
    stepped { slaveCode 0x000099BC with slave := false, dcache := [(256, { dirtyLine 2 with par := 0 })] } (·.pc) =
      some 0xFFFFFFFFA0000100 ∧
    stepped (slaveCode 0) (·.pc) = some 0xFFFFFFFF80001004 := by
  and_intros <;> decide +kernel

/-- 22_caches R238: the line a Hit Write-Back has put in the write buffer is one that Soft Reset may destroy. -/
theorem test_soft_reset_write_back : ran 0xBC990000 cached (·.busyLines) = some [(false, 256)] := by decide +kernel

/-- 92_eei_decisions D41: the linked line is lost in a Soft Reset, LLbit stays. -/
theorem test_soft_reset_link :
    { cached with llbit := true, linkPa := 0x2000, wbuf := [.line 0x2000 0 0 true (false, 256)] }.softReset.llbit =
      true := by decide +kernel

/-- 22_caches R255: Hit Write-Back of a line that is not modified leaves it as it is, a wrong parity of W too. -/
theorem test_hit_write_back_clean :
    let line := { dirtyLine 2 with w := false }
    ran 0xBC990000 { cached with dcache := [(256, line)] } (fun t => (t.dline 256, t.wbuf)) = some (line, []) := by
  decide +kernel

/-- 11_cp0_registers R120: an ignored write of Random is no late write. -/
theorem test_mtc0_random : ran 0x40820800 bench (·.hist) = some [] := by decide +kernel

/-- 11_cp0_registers R110: SIdx and PIdx of a write-back with bad parity are those of the reference. -/
theorem test_write_back_parity :
    ran 0xBC990018 { cached with dcache := [(256, { dirtyLine 2 with par := byteParities lineData ^^^ 1 })] }
      (·.cp0.cacheErr) = some 0xA000201A#32 := by decide +kernel

/-- 70_reset_and_hazards R862, R864: after ERET the old TLB entry is not seen, the old instruction line may be. -/
theorem test_eret_windows :
    ({ bench with hist := [⟨1, .tlb 0 TlbEntry.zero⟩, ⟨2, .cp0 10 0⟩, ⟨1, .icache 0 ILine.zero⟩] }.eret.hist) =
      [⟨1, .icache 0 ILine.zero⟩] := by decide +kernel

/-- 70_reset_and_hazards R857: SYSCALL in the delay slot of a jump to an address that is not aligned. -/
theorem test_killed_fetch :
    let s := { bench with pending := some { branchPc := 0, target := 2, link := 0 } }
    ((s.killed (s.raise .sysCall) exec).map (·.fetchExc)).head? = some (some (.addressError 2 false)) := by
  decide +kernel

/-- 70_reset_and_hazards R862: two fetches behind an ERET are killed, also if it returns to the next word; 43_jumps_branches
R441: none by a nullifying branch (BNEL r0, r0, +2). -/
theorem test_killed_count :
    let s := { bench.withFetchWord 32 0x42000018 with cp0 := { bench.cp0 with epc := bench.pc + 4 } }
    let b := bench.withFetchWord 32 0x54000002
    after .eret s (fun t => (t.pc, (s.killed t exec).length)) = some (bench.pc + 4, 2) ∧
    after (.bnel 0 0 2) b (fun t => (t.pc, (b.killed t exec).length)) = some (bench.pc + 8, 0) := by
  and_intros <;> decide +kernel
/-! ### Witnesses: the hypotheses of the statements can be met -/

/-- The outcome is a next state that `p` accepts. -/
def nextWith (o : Host.Outcome State Fault Refusal) (p : State → Bool) : Bool :=
  match o with
  | .next t => p t
  | _ => false

theorem exists_of_nextWith {o : Host.Outcome State Fault Refusal} {p : State → Bool} (h : nextWith o p = true) :
    ∃ t, o = .next t ∧ p t = true := by
  cases o <;> simp_all [nextWith]

theorem witness_DecodeEncodeAgree :
    (Instr.addFmt 31 31 0 31).wf = true ∧ (Instr.cop2 0x1FFFFFF).wf = true ∧
    decode 0x46241000 = .instr (.addFmt 17 4 2 0) := by
  and_intros <;> decide +kernel

theorem witness_ReservedWordsTrap :
    (opOf 0x4C000000).toNat = 19 ∧ (opOf 0xEC820000).toNat = 59 ∧
    (opOf 0x00000001 = 0 ∧ (fnOf 0x00000001).toNat = 1) ∧ (opOf 0x0000003D = 0 ∧ (fnOf 0x0000003D).toNat = 61) ∧
    (opOf 0x04040000 = 1 ∧ (rtOf 0x04040000).toNat = 4) ∧ (opOf 0x041F0000 = 1 ∧ (rtOf 0x041F0000).toNat = 31) := by
  and_intros <;> decide +kernel

/-- ADD r3, r1, r2 is the next instruction. -/
def addNext : State := bench.withFetchWord 32 0x00221820

theorem witness_StepRunsDecodedInstruction :
    addNext.inputs = [] ∧ addNext.busWait = none ∧ addNext.slave = false ∧ addNext.standby = false ∧
    addNext.nmiLatch = false ∧ (addNext.nmiLevel = true → addNext.nmiPrev = true) ∧
    ∃ s1 s2, { addNext with exc := false, nmiPrev := addNext.nmiLevel, dma := [] }.drainOne = .ok () s1 ∧
      s1.startInstr.takesInterrupt = false ∧ s1.startInstr.fetch = .ok 0x00221820 s2 ∧
      decode 0x00221820 = .instr (.add 1 2 3) ∧
      ∃ t, exec (.add 1 2 3) s2 = .next t ∧ (!t.exc && t.busWait == none && t.pc == s1.pc + 4) = true :=
  ⟨rfl, rfl, rfl, rfl, rfl, by decide +kernel, _, _, rfl, by decide +kernel, rfl, by decide +kernel,
    exists_of_nextWith (by decide +kernel)⟩

theorem witness_FetchReadsMemory :
    State.reset.pc.toNat % 4 = 0 ∧ State.reset.maps .fetch State.reset.pc 0x1FC00000 2 ∧
    State.reset.plain 0x1FC00000 4 ∧ State.reset.wbuf = [] ∧ (∀ h ∈ State.reset.hist, h.what.isCode = false) := by
  unfold State.maps State.plain State.quiet; and_intros <;> decide +kernel

/-- SD r2, 0(r4) is the next instruction, one write is buffered and one cache line is modified. -/
def storeNext : State :=
  { (data true).withFetchWord 32 0xFC820000 with
    wbuf := [.word 0x200 4 0x1122334400000000], dcache := [(511, dirtyLine 2)] }

theorem witness_step_next : ∃ t, step storeNext = .next t ∧ (t.wbuf != []) = true :=
  exists_of_nextWith (by decide +kernel)

theorem witness_StepKeepsMemoryForm : storeNext.memoryWf := by
  unfold State.memoryWf; and_intros <;> decide +kernel

theorem witness_StepKeepsFields : storeNext.FieldsOk := by constructor <;> decide +kernel

theorem witness_StepKeepsRandom : storeNext.randomOk ∧ storeNext.cp0.wired.toNat ≤ 47 := by
  unfold State.randomOk; and_intros <;> decide +kernel

theorem witness_StepKeepsWriteBuffer : storeNext.bufferOk := by
  unfold State.bufferOk; and_intros <;> decide +kernel

/-- r1 and r2 the largest and smallest word, r3 = 5, r5 = 1, r6 and r7 the largest and smallest doubleword. -/
def nums : State :=
  withRegs bench [(1, 0x7FFFFFFF), (2, 0xFFFFFFFF80000000), (3, 5), (5, 1), (6, 0x7FFFFFFFFFFFFFFF),
    (7, 0x8000000000000000)]

theorem witness_AddSub32 :
    fits 32 (nums.readGpr 1).toInt ∧ fits 32 (nums.readGpr 2).toInt ∧ fits 32 (nums.readGpr 5).toInt ∧
    fits 32 ((nums.readGpr 1).toInt + (0xFFFF#16).toInt) ∧ ¬ fits 32 ((nums.readGpr 1).toInt + (1#16).toInt) ∧
    fits 32 ((nums.readGpr 1).toInt + (nums.readGpr 2).toInt) ∧
    ¬ fits 32 ((nums.readGpr 1).toInt + (nums.readGpr 5).toInt) ∧
    fits 32 ((nums.readGpr 1).toInt - (nums.readGpr 5).toInt) ∧
    ¬ fits 32 ((nums.readGpr 2).toInt - (nums.readGpr 5).toInt) := by
  unfold fits; and_intros <;> decide +kernel

theorem witness_AddSub64 :
    nums.ops64Enabled = true ∧ (withStatus 0x10 bench).ops64Enabled = false ∧
    fits 64 ((nums.readGpr 6).toInt + (nums.readGpr 7).toInt) ∧
    ¬ fits 64 ((nums.readGpr 6).toInt + (nums.readGpr 5).toInt) ∧
    fits 64 ((nums.readGpr 6).toInt - (nums.readGpr 5).toInt) ∧
    ¬ fits 64 ((nums.readGpr 7).toInt - (nums.readGpr 5).toInt) ∧
    fits 64 ((nums.readGpr 7).toInt + (0#16).toInt) ∧ ¬ fits 64 ((nums.readGpr 7).toInt + (0x8000#16).toInt) := by
  unfold fits; and_intros <;> decide +kernel

/-- The operands of the logical rows of 96_test_vectors B1. -/
def logic : State := withRegs bench [(1, 0xFFFFFFFF00000000), (2, 0x123456789ABCDEF0)]

theorem witness_LogicAndCompare :
    let a := logic.readGpr 1
    let b := logic.readGpr 2
    (∀ k < 64, (0x1234567800000000#64).getLsbD k = (a.getLsbD k && b.getLsbD k)) ∧
    (∀ k < 64, (0xFFFFFFFF9ABCDEF0#64).getLsbD k = (a.getLsbD k || b.getLsbD k)) ∧
    (∀ k < 64, (0xEDCBA9879ABCDEF0#64).getLsbD k = (a.getLsbD k != b.getLsbD k)) ∧
    (∀ k < 64, (0x000000006543210F#64).getLsbD k = !(a.getLsbD k || b.getLsbD k)) ∧
    (∀ k < 64, (0x8000#64).getLsbD k = (b.getLsbD k && (0x8001#16).getLsbD k)) ∧
    (∀ k < 64, (0xFFFFFFFF00008001#64).getLsbD k = (a.getLsbD k || (0x8001#16).getLsbD k)) ∧
    (∀ k < 64, (0xFFFFFFFF00008001#64).getLsbD k = (a.getLsbD k != (0x8001#16).getLsbD k)) ∧
    (0xFFFFFFFF80010000#64).toInt = (0x8001#16).toInt * 65536 := by
  and_intros <;> decide +kernel

theorem witness_OpenResultsComplete : bench.ops64Enabled = true := by decide +kernel

theorem witness_Shift32Result : fits 32 (nums.readGpr 2).toInt ∧ fits 32 (nums.readGpr 1).toInt := by
  unfold fits; and_intros <;> decide +kernel

theorem witness_Shift64Result :
    nums.ops64Enabled = true ∧ (withStatus 0x10 bench).ops64Enabled = false := by
  and_intros <;> decide +kernel

theorem witness_MultiplyResult :
    fits 32 (nums.readGpr 1).toInt ∧ fits 32 (nums.readGpr 2).toInt ∧ nums.ops64Enabled = true ∧
    (withStatus 0x10 bench).ops64Enabled = false := by
  unfold fits; and_intros <;> decide +kernel

theorem witness_DivideResult :
    nums.readGpr 2 ≠ 0 ∧ fits 32 (nums.readGpr 1).toInt ∧ fits 32 (nums.readGpr 2).toInt ∧
    nums.ops64Enabled = true := by
  unfold fits; and_intros <;> decide +kernel

theorem witness_HiLoMoves : bench.hiloFresh = false ∧ { bench with hiloFresh := true }.hiloFresh = true := ⟨rfl, rfl⟩

theorem witness_Jumps :
    bench.pending = none ∧ ((5 : Reg) ≠ 31 ∨ (31 : Reg) = 0) ∧ ((0 : Reg) ≠ 0 ∨ (0 : Reg) = 0) ∧ (5 : Reg) ≠ 0 := by
  and_intros <;> decide +kernel

theorem witness_Branches :
    nums.pending = none ∧ nums.copUsable 1 = true ∧ (nums.readGpr 3).toInt = (nums.readGpr 3).toInt ∧
    (nums.readGpr 3).toInt ≠ (nums.readGpr 1).toInt ∧ (nums.readGpr 0).toInt ≤ 0 ∧ ¬ (nums.readGpr 5).toInt ≤ 0 ∧
    0 < (nums.readGpr 5).toInt ∧ ¬ 0 < (nums.readGpr 0).toInt ∧ (nums.readGpr 7).toInt < 0 ∧
    ¬ (nums.readGpr 0).toInt < 0 ∧ 0 ≤ (nums.readGpr 0).toInt ∧ ¬ 0 ≤ (nums.readGpr 7).toInt ∧
    nums.condSeen = false ∧ { nums with fcr31 := 0x800000 }.condSeen = true := by
  and_intros <;> decide +kernel

/-- In the delay slot of a JAL. -/
def inSlot : State := { bench with pending := some { branchPc := bench.pc - 4, target := 0x2000, link := 31 } }

theorem witness_BranchInSlot :
    inSlot.pending = some { branchPc := bench.pc - 4, target := 0x2000, link := 31 } ∧
    inSlot.copUsable 0 = true ∧ inSlot.copUsable 1 = true ∧ inSlot.copUsable 2 = true := by
  and_intros <;> decide +kernel

/-- Two buffered writes, the second to a region that never answers. -/
def stuckWrite : State :=
  { bench with
    wbuf := [.word 0x100 4 0, .word 0x1000 4 0]
    cfg := { Params.reset with physMap := [{ base := 0x1000, size := 0x1000, kind := .noResponse, sizes := [] }] } }

theorem witness_TrapsAndSync :
    storeNext.quiet ∧ storeNext.wbuf ≠ [] ∧
    stuckWrite.wbuf = [.word 0x100 4 0] ++ .word 0x1000 4 0 :: [] ∧
    (∀ b ∈ ([.word 0x100 4 0] : List WEntry), stuckWrite.cfg.kindOf b = none) ∧
    stuckWrite.cfg.kindOf (WEntry.word 0x1000 4 0) = some .noResponse ∧
    (nums.readGpr 7).toInt < (nums.readGpr 0).toInt ∧ (nums.readGpr 0).toNat < (nums.readGpr 7).toNat ∧
    ¬ (nums.readGpr 0).toInt < (nums.readGpr 0).toInt ∧ (nums.readGpr 0).toNat = (nums.readGpr 0).toNat ∧
    (nums.readGpr 5).toInt ≠ (nums.readGpr 0).toInt ∧ (nums.readGpr 0).toInt ≥ (0x8000#16).toInt := by
  unfold State.quiet; and_intros <;> decide +kernel

theorem witness_LoadsUncached :
    (data true).ops64Enabled = true ∧ (data true).uncached .load ((data true).address 4 7) 1 0x107 ∧
    (data true).uncached .load ((data true).address 4 6) 2 0x106 ∧
    (data true).uncached .load ((data true).address 4 0xFFFC) 4 0x0FC ∧
    (data true).uncached .load ((data true).address 4 0) 8 0x100 := by
  unfold State.uncached State.maps State.plain State.quiet; and_intros <;> decide +kernel

/-- The line of `cached` with one wrong data parity bit, or with a wrong tag parity. -/
def badData : State := { cached with dcache := [(256, { dirtyLine 2 with par := byteParities lineData ^^^ 1 })] }
def badTag : State := { cached with dcache := [(256, { dirtyLine 2 with tagPar := !(dirtyLine 2).tagPar })] }

theorem witness_LoadsHit :
    cached.ops64Enabled = true ∧ cached.hitsLine .load (cached.address 4 0x1F) 1 0x201F 3 256 ∧
    cached.hitsLine .load (cached.address 4 0x18) 8 0x2018 3 256 ∧ cached.goodAt 256 0x2018 ∧
    badData.hitsLine .load (badData.address 4 4) 4 0x2004 3 256 ∧ ¬ badData.goodAt 256 0x2004 ∧
    badTag.hitsLine .load (badTag.address 4 4) 4 0x2004 3 256 ∧ ¬ badTag.goodAt 256 0x2004 ∧
    stDE (badData.statusSeen .parityEnable) = false := by
  unfold State.hitsLine State.maps State.goodAt; and_intros <;> decide +kernel

/-- LWL r2, 1(r4) and LDR r2, 2(r4), big-endian, with the results of 96_test_vectors B4. -/
theorem witness_UnalignedLoads :
    (data true).ops64Enabled = true ∧ (data true).maps .load ((data true).address 4 1) 0x101 2 ∧
    (data true).plain (partialAddr (data true).reverseEndian true true 0x101 4) 3 ∧
    (data true).movedBytes true 4 ((data true).address 4 1) = 3 ∧
    (∀ k < 3, byteOf 0x22334418 (movedPlace true 4 k) = (data true).byteAt ((data true).movedAddr true 0x101 k)) ∧
    (∀ k < 4, 3 ≤ k →
      byteOf 0x22334418 (movedPlace true 4 k) = byteOf ((data true).readGpr 2) (movedPlace true 4 k)) ∧
    fits 32 (0x22334418#64).toInt ∧
    (data true).maps .load ((data true).address 4 2) 0x102 2 ∧
    (data true).plain (partialAddr (data true).reverseEndian true false 0x102 8) 3 ∧
    (data true).movedBytes false 8 ((data true).address 4 2) = 3 ∧
    (∀ k < 3, byteOf 0xA1B2C3D4E5112233 (movedPlace false 8 k) =
      (data true).byteAt ((data true).movedAddr false 0x102 k)) ∧
    ∀ k < 8, 3 ≤ k →
      byteOf 0xA1B2C3D4E5112233 (movedPlace false 8 k) = byteOf ((data true).readGpr 2) (movedPlace false 8 k) := by
  unfold State.maps State.plain State.quiet fits; and_intros <;> decide +kernel

/-- kseg0 write-through without allocation (K0 = 0) and with it (K0 = 1), the line of `cached` there. -/
def through (k0 : Word) : State := { cached with cp0 := { cached.cp0 with config := 0x1000E4B0 ||| k0 } }

theorem witness_StoresUncached :
    (data true).ops64Enabled = true ∧ (data true).memoryWf ∧ ((data true).address 4 8).toNat % 8 = 0 ∧
    (data true).maps .store ((data true).address 4 8) 0x108 2 ∧ (data true).plain 0x108 8 ∧ (through 0).memoryWf ∧
    ((through 0).address 4 0x2004).toNat % 4 = 0 ∧ (through 0).maps .store ((through 0).address 4 0x2004) 0x4004 0 ∧
    (through 0).dLookup ((through 0).address 4 0x2004) 0x4004 = none ∧
    (through 0).plain (busAddr (through 0).reverseEndian 0x4004 4) 4 := by
  unfold State.memoryWf State.maps State.plain State.quiet; and_intros <;> decide +kernel

/-- Set 0 holds one modified line of another tag (way 1) and nothing in way 0. -/
theorem witness_CacheMissesRefill :
    let missed := fun (s : State) (k : AccessKind) (n : Nat) (attr : BitVec 3) =>
      (s.address 4 0x2000).toNat % n = 0 ∧ s.maps k (s.address 4 0x2000) 0x4000 attr ∧
      s.dLookup (s.address 4 0x2000) 0x4000 = none ∧ s.plain (dwordAddr 0x4000) 32 ∧
      (s.dline 0).errs = 0 ∧ (s.dline (256 + 0)).errs = 0
    cached.ops64Enabled = true ∧ cached.memoryWf ∧ missed cached .load 8 3 ∧ (cached.dline 256).state ≠ 0 ∧
    (cached.dline 256).w = true ∧ (through 0).memoryWf ∧ missed (through 0) .load 1 0 ∧ missed cached .store 8 3 ∧
    stCE (cached.statusSeen .forcedParity) = false ∧ (through 1).memoryWf ∧ missed (through 1) .load 2 1 ∧
    missed (through 1) .store 4 1 ∧ stCE ((through 1).statusSeen .forcedParity) = false ∧
    (through 1).plain (busAddr (through 1).reverseEndian 0x4000 4) 4 ∧
    ∀ i ∈ [0, 256 + 0], (through 1).cfg.kindAt ((through 1).lineAddr ((through 1).dline i).tag i) 32 = none := by
  unfold State.memoryWf State.maps State.plain State.quiet; and_intros <;> decide +kernel

theorem witness_StoresHit :
    cached.ops64Enabled = true ∧ cached.memoryWf ∧ cached.hitsLine .store (cached.address 4 0x18) 8 0x2018 3 256 ∧
    cached.goodAt 256 0x2018 ∧ (through 0).memoryWf ∧
    (through 0).hitsLine .store ((through 0).address 4 0x1F) 1 0x201F 0 256 ∧
    (through 0).goodAt 256 0x201F ∧ (through 0).plain (busAddr (through 0).reverseEndian 0x201F 1) 1 ∧
    (through 1).hitsLine .store ((through 1).address 4 2) 2 0x2002 1 256 ∧ badData.memoryWf ∧
    badData.hitsLine .store (badData.address 4 4) 4 0x2004 3 256 ∧ ¬ badData.goodAt 256 0x2004 ∧
    badTag.memoryWf ∧ badTag.hitsLine .store (badTag.address 4 0) 8 0x2000 3 256 ∧ ¬ badTag.goodAt 256 0x2000 ∧
    stDE (badTag.statusSeen .parityEnable) = false ∧ stDE (badData.statusSeen .parityEnable) = false := by
  unfold State.memoryWf State.hitsLine State.maps State.plain State.quiet State.goodAt; and_intros <;> decide +kernel

theorem witness_UnalignedStores :
    (data true).ops64Enabled = true ∧ (data true).memoryWf ∧
    (data true).maps .store ((data true).address 4 1) 0x101 2 ∧
    (data true).plain (partialAddr (data true).reverseEndian true true 0x101 4) 3 ∧
    (data false).maps .store ((data false).address 4 7) 0x107 2 ∧
    (data false).movedBytes false 8 ((data false).address 4 7) = 1 ∧
    (data true).movedBytes true 4 ((data true).address 4 1) = 3 ∧
    (data false).plain (partialAddr (data false).reverseEndian false false 0x107 8) 1 := by
  unfold State.memoryWf State.maps State.plain State.quiet; and_intros <;> decide +kernel

/-- r5 = 0xFFFFFFFF80000102 is not a word's address, r6 = 0x80000000 is no address in Kernel mode with KX = 0,
r7 = 0x70000000 is mapped and has no TLB entry. -/
def badAddresses : State := withRegs bench [(5, 0xFFFFFFFF80000102), (6, 0x80000000), (7, 0x70000000)]

theorem witness_AccessExceptions :
    let user := withStatus 0x10 badAddresses
    let lost := fun pc : DWord => { user with pc := pc }
    badAddresses.ops64Enabled = true ∧ badAddresses.copUsable 0 = true ∧ badAddresses.copUsable 1 = true ∧
    badAddresses.copUsable 2 = true ∧ user.copUsable 1 = false ∧ (user.address 5 0).toNat % 4 ≠ 0 ∧
    (badAddresses.address 5 0).toNat % 4 ≠ 0 ∧ (badAddresses.address 5 0xFFFF).toNat % 2 ≠ 0 ∧
    (badAddresses.address 6 0).toNat % 8 = 0 ∧
    badAddresses.translate .load (badAddresses.address 6 0) = .exc (.addressError 0x80000000 false) ∧
    (badAddresses.address 7 0).toNat % 8 = 0 ∧
    badAddresses.translate .load (badAddresses.address 7 0) = .exc (.tlbRefill 0x70000000 false) ∧
    badAddresses.translate .store (badAddresses.address 7 0) = .exc (.tlbRefill 0x70000000 true) ∧
    (lost 0x70000002).pc.toNat % 4 ≠ 0 ∧ (lost 0x70000000).pc.toNat % 4 = 0 ∧
    (lost 0x70000000).translate .fetch 0x70000000 = .exc (.tlbRefill 0x70000000 false) := by
  and_intros <;> decide +kernel

/-- With LLbit 1: an SC whose SW completes and leaves a quiet machine: a write-through hit and miss (K0 = 0), and
uncached. -/
theorem witness_LinkedAccesses :
    let linkedWord := fun k0 => { through k0 with llbit := true }
    let storeDone := fun (o : BitVec 16) (s : State) => nextWith (exec (.sw 4 2 o) s) fun u =>
      !u.exc && u.busWait == none && u.wbuf.all (fun e => u.cfg.kindOf e == none) && u.dma == [] &&
        u.busReply == none
    cached.memoryWf ∧ cached.quiet ∧ cached.ops64Enabled = true ∧
    cached.hitsLine .load (cached.address 4 0x18) 8 0x2018 3 256 ∧ cached.goodAt 256 0x2018 ∧
    badData.memoryWf ∧ badData.quiet ∧ badData.hitsLine .load (badData.address 4 4) 4 0x2004 3 256 ∧
    ¬ badData.goodAt 256 0x2004 ∧ stDE (badData.statusSeen .parityEnable) = false ∧
    (data true).memoryWf ∧ (data true).quiet ∧ (data true).uncached .load ((data true).address 4 4) 4 0x104 ∧
    (cached.address 4 0x1C).toNat % 4 = 0 ∧ cached.maps .store (cached.address 4 0x1C) 0x201C 3 ∧
    cached.llbit = false ∧ { cached with llbit := true }.hitsLine .store (cached.address 4 0) 4 0x2000 3 256 ∧
    { cached with llbit := true }.goodAt 256 0x2000 ∧
    { badData with llbit := true }.hitsLine .store (badData.address 4 4) 4 0x2004 3 256 ∧
    ¬ { badData with llbit := true }.goodAt 256 0x2004 ∧
    storeDone 0 (linkedWord 0) = true ∧ storeDone 0x2000 (linkedWord 0) = true ∧ storeDone 0 (linkedWord 2) = true := by
  unfold State.memoryWf State.hitsLine State.goodAt State.uncached State.maps State.plain State.quiet
  and_intros <;> decide +kernel

theorem witness_ReadsWithoutHazard : bench.hist = [] := rfl

theorem witness_Cp0Read : bench.copUsable 0 = true ∧ bench.ops64Enabled = true ∧ bench.hist = [] := by
  and_intros <;> decide +kernel

theorem witness_Cp0Write : bench.copUsable 0 = true ∧ bench.ops64Enabled = true := by
  and_intros <;> decide +kernel

/-- Index and Random at both ends of the TLB and beyond it. -/
def indexed (i : Word) (r : BitVec 6) : State := { bench with cp0 := { bench.cp0 with index := i, random := r } }

theorem witness_TlbWriteRead :
    (indexed 0 47).copUsable 0 = true ∧ ((indexed 0 47).cp0Read 0).toNat % 64 = (0 : Fin 48).val ∧
    ((indexed 47 0).cp0Read 0).toNat % 64 = (47 : Fin 48).val ∧
    ((indexed 0 47).cp0Read 1).toNat % 64 = (47 : Fin 48).val ∧
    ((indexed 47 0).cp0Read 1).toNat % 64 = (0 : Fin 48).val ∧ 47 < ((indexed 48 63).cp0Read 0).toNat % 64 ∧
    47 < ((indexed 48 63).cp0Read 1).toNat % 64 := by
  and_intros <;> decide +kernel

theorem witness_TlbProbe :
    let found := fun (s : State) (i : Fin 48) =>
      s.tlb[i].r.toNat = (s.cp0Read 10).toNat / 2 ^ 62 ∧
      (s.tlb[i].g = true ∨ s.tlb[i].asid.toNat = (s.cp0Read 10).toNat % 256) ∧
      ∀ b < 27, s.tlb[i].mask.getLsbD b = false → s.tlb[i].vpn2.getLsbD b = (s.cp0Read 10).getLsbD (13 + b)
    tlbState.copUsable 0 = true ∧ (∀ i : Fin 48, legalMask tlbState.tlb[i].mask = true) ∧ found tlbState 7 ∧
    (∀ j, found tlbState j → j = 7) ∧
    ∀ i, ¬ found { tlbState with cp0 := { tlbState.cp0 with entryHi := 0x408006 } } i := by
  and_intros <;> decide +kernel

theorem witness_EretAndWait : bench.copUsable 0 = true ∧ bench.hist = [] ∧ bench.pending = none := by
  and_intros <;> decide +kernel

theorem witness_CoprocessorForms :
    (data true).copUsable 0 = true ∧ (data true).pending = none ∧ (data true).copUsable 2 = true ∧
    (data true).ops64Enabled = true ∧ (data true).uncached .load ((data true).address 4 4) 4 0x104 ∧
    (data true).uncached .load ((data true).address 4 0) 8 0x100 ∧ (data true).memoryWf ∧
    (data true).uncached .store ((data true).address 4 4) 4 0x104 ∧
    (data true).uncached .store ((data true).address 4 0) 8 0x100 := by
  unfold State.memoryWf State.uncached State.maps State.plain State.quiet; and_intros <;> decide +kernel

/-- User mode, 32-bit addressing, with and without usable coprocessors. -/
theorem witness_InstructionsDisabled :
    (withStatus 0x10 bench).copUsable 0 = false ∧ (withStatus 0x10 bench).copUsable 1 = false ∧
    (withStatus 0x10 bench).copUsable 2 = false ∧ (withStatus 0x70000010 bench).ops64Enabled = false ∧
    (withStatus 0x70000010 bench).copUsable 0 = true ∧ (withStatus 0x70000010 bench).copUsable 1 = true ∧
    (withStatus 0x70000010 bench).copUsable 2 = true := by
  and_intros <;> decide +kernel

theorem witness_CacheDataOps :
    cached.copUsable 0 = true ∧ cached.memoryWf ∧ cached.maps .load (cached.address 4 0) 0x2000 3 ∧
    cached.quiet ∧ cached.cfg.tagLo.ok = true ∧ stCE (cached.statusSeen .forcedParity) = false ∧
    (cached.dline 256).errs = 0 ∧
    256 = (cached.address 4 0).toNat / 32 % 256 + (if (cached.address 4 0).getLsbD 13 then 256 else 0) ∧
    cached.dLookup (cached.address 4 0) 0x2000 = some 256 ∧
    cached.maps .load (cached.address 4 0x1FE0) 0x3FE0 3 ∧ (cached.dline 511).errs = 0 ∧
    511 = (cached.address 4 0x1FE0).toNat / 32 % 256 + (if (cached.address 4 0x1FE0).getLsbD 13 then 256 else 0) ∧
    cached.dLookup (cached.address 4 0x1FE0) 0x3FE0 = none := by
  unfold State.memoryWf State.maps State.quiet; and_intros <;> decide +kernel

theorem witness_CacheDataOps_no_parity_error : ∀ j, (bench.dline j).errs = 0 := by
  intro j
  rw [show bench.dline j = DLine.zero from rfl]
  decide +kernel

theorem witness_CacheInstrOps :
    (data true).copUsable 0 = true ∧ (data true).memoryWf ∧ (data true).maps .load ((data true).address 4 0) 0x100 2 ∧
    (data true).quiet ∧ (data true).cfg.tagLo.ok = true ∧ stCE ((data true).statusSeen .forcedParity) = false ∧ cached.copUsable 0 = true ∧ cached.memoryWf ∧
    cached.maps .load (cached.address 4 0) 0x2000 3 ∧ cached.quiet ∧
    cached.cfg.tagLo.ok = true ∧ stCE (cached.statusSeen .forcedParity) = false ∧
    256 = (cached.address 4 0).toNat / 32 % 256 + (if (cached.address 4 0).getLsbD 13 then 256 else 0) ∧
    cached.cfg.kindAt 0x2000 32 = none ∧ cached.iHit (cached.address 4 0) 0x2000 = some 256 ∧
    (cached.iline 256).errs = 0 ∧ cached.maps .load (cached.address 4 0x20) 0x2020 3 ∧
    cached.iHit (cached.address 4 0x20) 0x2020 = none := by
  unfold State.memoryWf State.maps State.quiet; and_intros <;> decide +kernel

theorem witness_FpLoadStore :
    (data true).copUsable 1 = true ∧ (data true).memoryWf ∧
    (data true).uncached .load ((data true).address 4 4) 4 0x104 ∧
    (data true).uncached .load ((data true).address 4 0) 8 0x100 ∧
    (data true).uncached .store ((data true).address 4 4) 4 0x104 ∧
    (data true).uncached .store ((data true).address 4 0) 8 0x100 := by
  unfold State.memoryWf State.uncached State.maps State.plain State.quiet; and_intros <;> decide +kernel

/-- r1: no trap (Cause I with all other Enables); r2: Cause E; r3: Cause V with Enable V. -/
def controls : State := withRegs bench [(1, 0x1F00), (2, 0x20000), (3, 0x10800)]

theorem witness_FpMoves :
    controls.copUsable 1 = true ∧ controls.ops64Enabled = true ∧
    (¬ ((controls.readGpr 1).getLsbD 17 = true ∨
      ∃ k < 5, (controls.readGpr 1).getLsbD (12 + k) = true ∧ (controls.readGpr 1).getLsbD (7 + k) = true)) ∧
    (controls.readGpr 2).getLsbD 17 = true ∧
    (∃ k < 5, (controls.readGpr 3).getLsbD (12 + k) = true ∧ (controls.readGpr 3).getLsbD (7 + k) = true) := by
  and_intros <;> decide +kernel

/-- FCR31 = `f`, f2 = `a`, f4 = `b`. -/
def fps (f : Word) (a b : DWord) : State := { bench with fcr31 := f, fgr := (bench.fgr.set 2 a).set 4 b }

theorem witness_FpSignMoves :
    (fps 0 0xFF800000 0).copUsable 1 = true ∧ (fps 0 0xFF800000 0).holds fmtS 2 ∧ (fps 0 0xFF800000 0).holds fmtD 2 ∧
    (fmtS.value ((fps 0 0xFF800000 0).fpOperand fmtS 2)).isNan = false ∧
    fmtS.denormal ((fps 0 0xFF800000 0).fpOperand fmtS 2) = false ∧
    (fmtD.value ((fps 0 0x3FF0000000000000 0).fpOperand fmtD 2)).isNan = false ∧
    fmtD.denormal ((fps 0 0x3FF0000000000000 0).fpOperand fmtD 2) = false := by
  unfold State.holds; and_intros <;> decide +kernel

theorem witness_FpArithmeticCompletes :
    let s := fps 0x1000003 0x7FEFFFFFFFFFFFFF 0x7FF8000000000000
    s.copUsable 1 = true ∧ fcrEnables s.fcrSeen = 0 ∧ fcrFS s.fcrSeen = true ∧ s.holds fmtD 2 ∧ s.holds fmtD 4 ∧
    s.holds fmtD 0 ∧ fmtD.screened (s.fpOperand fmtD 2) = false ∧ fmtD.screened (s.fpOperand fmtD 4) = false ∧
    fmtS.screened ((fps 0x1000003 0x7FC00000 0).fpOperand fmtS 2) = false := by
  unfold State.holds; and_intros <;> decide +kernel

/-- 2.25 and 1.5 in the S format: sum 3.75, difference 0.75, product 3.375, quotient and root 1.5. -/
def twoNumbers : State := fps 0 0x40100000 0x3FC00000

theorem value_S_2_25 : (fmtS.value 0x40100000).rat = 9 / 4 := by
  rw [show fmtS.value 0x40100000 = .fin false 9437184 (-22) from by decide +kernel]; norm_num [FpVal.rat]

theorem value_S_1_5 : (fmtS.value 0x3FC00000).rat = 3 / 2 := by
  rw [show fmtS.value 0x3FC00000 = .fin false 12582912 (-23) from by decide +kernel]; norm_num [FpVal.rat]

theorem value_S_3_75 : (fmtS.value 0x40700000).rat = 15 / 4 := by
  rw [show fmtS.value 0x40700000 = .fin false 15728640 (-22) from by decide +kernel]; norm_num [FpVal.rat]

theorem value_S_0_75 : (fmtS.value 0x3F400000).rat = 3 / 4 := by
  rw [show fmtS.value 0x3F400000 = .fin false 12582912 (-24) from by decide +kernel]; norm_num [FpVal.rat]

theorem value_S_3_375 : (fmtS.value 0x40580000).rat = 27 / 8 := by
  rw [show fmtS.value 0x40580000 = .fin false 14155776 (-22) from by decide +kernel]; norm_num [FpVal.rat]

theorem witness_FpExactResults :
    twoNumbers.copUsable 1 = true ∧ twoNumbers.holds fmtS 2 ∧ twoNumbers.holds fmtS 4 ∧ twoNumbers.holds fmtS 0 ∧
    twoNumbers.fpOperand fmtS 2 = 0x40100000 ∧ twoNumbers.fpOperand fmtS 4 = 0x3FC00000 ∧
    fmtS.plainNumber 0x40100000 ∧ fmtS.plainNumber 0x3FC00000 ∧ fmtS.plainNumber 0x40700000 ∧
    fmtS.plainNumber 0x3F400000 ∧ fmtS.plainNumber 0x40580000 := by
  unfold State.holds FpFmt.plainNumber; and_intros <;> decide +kernel

theorem witness_FpExactResults_values :
    (fmtS.value 0x40700000).rat = (fmtS.value 0x40100000).rat + (fmtS.value 0x3FC00000).rat ∧
    (fmtS.value 0x3F400000).rat = (fmtS.value 0x40100000).rat - (fmtS.value 0x3FC00000).rat ∧
    (fmtS.value 0x40580000).rat = (fmtS.value 0x40100000).rat * (fmtS.value 0x3FC00000).rat ∧
    (fmtS.value 0x3FC00000).rat * (fmtS.value 0x3FC00000).rat = (fmtS.value 0x40100000).rat ∧
    0 < (fmtS.value 0x3FC00000).rat ∧ (fmtS.value 0x40700000).rat ≠ 0 := by
  rw [value_S_3_75, value_S_0_75, value_S_3_375, value_S_2_25, value_S_1_5]; norm_num

/-- A tie, 3 / 2, goes to the even 2. -/
theorem witness_FpRounding :
    (2 * ((roundShift 0 false 3 1 false).1 * 2 ^ 1) = 2 * 3 + 2 ^ 1 ∧ (roundShift 0 false 3 1 false).1 % 2 = 0) ∧
    3 % 2 ^ 1 ≠ 0 := by
  and_intros <;> decide +kernel

/-- At the bounds: 2^128 overflows the S format; 2^-128 underflows it, with and without trap and flush. -/
theorem witness_FpOverflowUnderflow :
    ((1 : Nat) : ℚ) * (2 : ℚ) ^ (128 : Int) ≥ (2 : ℚ) ^ ((fmtS.emax : Int) + 1) ∧
    ((1 : Nat) : ℚ) * (2 : ℚ) ^ (-128 : Int) < (2 : ℚ) ^ (fmtS.emin - 1) := by
  rw [show (fmtS.emax : Int) = 127 from rfl, show fmtS.emin = -126 from rfl]; norm_num

/-- 2.5 is 2 to the nearest, toward zero and down, 3 up. -/
theorem witness_FpConvertToFixed :
    roundsTo 0 (5 / 2) 2 ∧ roundsTo 1 (5 / 2) 2 ∧ roundsTo 2 (5 / 2) 3 ∧ roundsTo 3 (5 / 2) 2 := by
  unfold roundsTo; norm_num; decide +kernel

theorem value_S_2_5 : (fmtS.value 0x40200000).rat = 5 / 2 := by
  rw [show fmtS.value 0x40200000 = .fin false 10485760 (-22) from by decide +kernel]; norm_num [FpVal.rat]

theorem witness_FpConvertToFixed_state :
    let s := fps 3 0x40200000 0
    s.copUsable 1 = true ∧ (fcrEnables s.fcrSeen).getLsbD 0 = false ∧ s.holds fmtS 2 ∧
    s.fpOperand fmtS 2 = 0x40200000 ∧ fmtS.plainNumber 0x40200000 ∧ fits 32 2 ∧ fits 64 3 ∧ s.holds fmtD 0 ∧
    s.ops64Enabled = true ∧ fcrRM s.fcrSeen = 3 := by
  unfold State.holds FpFmt.plainNumber fits; and_intros <;> decide +kernel

theorem value_D_1_5 : (fmtD.value 0x3FF8000000000000).rat = 3 / 2 := by
  rw [show fmtD.value 0x3FF8000000000000 = .fin false 6755399441055744 (-52) from by decide +kernel]; norm_num [FpVal.rat]

theorem value_S_3 : (fmtS.value 0x40400000).rat = 3 := by
  rw [show fmtS.value 0x40400000 = .fin false 12582912 (-22) from by decide +kernel]; norm_num [FpVal.rat]

/-- From 1.5 in the D format, from the word 3 and from the doubleword 3. -/
theorem witness_FpConvertToFloat :
    let s := fps 0 0x3FF8000000000000 3
    s.copUsable 1 = true ∧ s.holds fmtS 0 ∧ fmtS.plainNumber 0x3FC00000 ∧ s.holds fmtD 2 ∧
    fmtD.plainNumber (s.fpOperand fmtD 2) ∧ s.fpOperand fmtD 2 = 0x3FF8000000000000 ∧ fmtS.plainNumber 0x40400000 ∧
    (s.fpr32 4).toInt = 3 ∧ s.ops64Enabled = true ∧ s.holds fmtD 4 ∧ (s.fpr64 4).toInt = 3 := by
  unfold State.holds FpFmt.plainNumber; and_intros <;> decide +kernel

theorem witness_FpConvertToFloat_values :
    (fmtD.value 0x3FF8000000000000).rat = (fmtS.value 0x3FC00000).rat ∧ (fmtS.value 0x3FC00000).rat ≠ 0 ∧
    ((3 : Int) : ℚ) = (fmtS.value 0x40400000).rat ∧ (fmtS.value 0x40400000).rat ≠ 0 := by
  rw [value_D_1_5, value_S_1_5, value_S_3]; norm_num

/-- Numbers; a NaN under a condition that does not signal, that signals, and that traps. -/
theorem witness_FpCompare :
    let s := fps 0 0x3F800000 0x40000000
    let n := fps 0x800 0x7FBFFFFF 0x3F800000
    s.copUsable 1 = true ∧ s.holds fmtS 2 ∧ s.holds fmtS 4 ∧ (fmtS.value (s.fpOperand fmtS 2)).isNan = false ∧
    (fmtS.value (s.fpOperand fmtS 4)).isNan = false ∧ (fmtS.value (n.fpOperand fmtS 2)).isNan = true ∧
    (7 : BitVec 4).getLsbD 3 = false ∧ (8 : BitVec 4).getLsbD 3 = true ∧
    (fcrEnables s.fcrSeen).getLsbD 4 = false ∧ (fcrEnables n.fcrSeen).getLsbD 4 = true := by
  unfold State.holds; and_intros <;> decide +kernel

theorem value_S_2_31 : (fmtS.value 0x4F000000).rat = 2147483648 := by
  rw [show fmtS.value 0x4F000000 = .fin false 8388608 8 from by decide +kernel]; norm_num [FpVal.rat]

/-- A denormalized number, quiet and signaling NaNs, an infinity, and 2^31, which no word holds. -/
theorem witness_FpSpecialOperands :
    (fps 0 1 0).copUsable 1 = true ∧ (fps 0 1 0).holds fmtS 2 ∧ fmtS.screened ((fps 0 1 0).fpOperand fmtS 2) = true ∧
    fmtS.screened ((fps 0 0x7FBFFFFF 0).fpOperand fmtS 2) = true ∧
    fmtS.screened ((fps 0x800 0x7FC00000 0).fpOperand fmtS 2) = false ∧
    fmtS.screened ((fps 0x800 0x7FC00000 0).fpOperand fmtS 4) = false ∧
    fmtS.value ((fps 0x800 0x7FC00000 0).fpOperand fmtS 2) = .nan true ∧
    (fcrEnables (fps 0x800 0x7FC00000 0).fcrSeen).getLsbD 4 = true ∧
    (fcrEnables (fps 0 0x7FC00000 0).fcrSeen).getLsbD 4 = false ∧ (fps 0 0 0).cfg.fixedConvertInvalid = false ∧
    (fmtS.value ((fps 0 0x7F800000 0).fpOperand fmtS 2)).isFin = false ∧
    fmtS.denormal ((fps 0 1 0).fpOperand fmtS 2) = true ∧
    (fps 0 0x4F000000 0).fpOperand fmtS 2 = 0x4F000000 ∧ ¬ fits 32 2147483648 ∧
    (fps 0 0x5F000000 0).fpOperand fmtS 2 = 0x5F000000 ∧ ¬ fits 64 9223372036854775808 ∧
    (fps 0 0 0).ops64Enabled = true ∧ (fps 0 0 0).holds fmtD 0 ∧ (fps 0 0 0).holds fmtD 2 ∧
    { fps 0 0 0 with cfg := { Params.reset with fixedConvertInvalid := true } }.cfg.fixedConvertInvalid = true ∧
    fmtD.screened ((fps 0 1 0).fpOperand fmtD 2) = true ∧
    fmtD.value ((fps 0x800 0x7FF8000000000000 0).fpOperand fmtD 2) = .nan true ∧
    fmtD.denormal ((fps 0 0x7FF0000000000000 0).fpOperand fmtD 2) = false ∧
    (fmtD.value ((fps 0 0x7FF0000000000000 0).fpOperand fmtD 2)).isFin = false := by
  unfold State.holds fits; and_intros <;> decide +kernel

theorem value_S_2_63 : (fmtS.value 0x5F000000).rat = 9223372036854775808 := by
  rw [show fmtS.value 0x5F000000 = .fin false 8388608 40 from by decide +kernel]; norm_num [FpVal.rat]

theorem witness_FpSpecialOperands_value :
    roundsTo 0 (fmtS.value 0x4F000000).rat 2147483648 ∧ roundsTo 3 (fmtS.value 0x5F000000).rat 9223372036854775808 := by
  rw [value_S_2_31, value_S_2_63]; norm_num [roundsTo]

/-- EXL 0 and a TLB Refill below 2^62; a kind that is no refill. -/
theorem witness_ExceptionEntry :
    bench.hist = [] ∧ bench.cp0.status.getLsbD 1 = false ∧
    Exc.tlbRefill 0x400000 true = .tlbRefill 0x400000 ((Exc.tlbRefill 0x400000 true).code == 3) ∧
    Exc.tlbRefill 0x400000 false = .tlbRefill 0x400000 ((Exc.tlbRefill 0x400000 false).code == 3) ∧
    (0x400000#64).toNat < 2 ^ 62 ∧ ∀ va, Exc.sysCall ≠ .tlbRefill va (Exc.sysCall.code == 3) := by
  refine ⟨rfl, by decide +kernel, by decide +kernel, by decide +kernel, by decide +kernel, fun va => by simp⟩

theorem witness_FaultRegisters :
    bench.cp0.status.getLsbD 1 = false ∧ (withStatus 2 bench).cp0.status.getLsbD 1 = true := by
  and_intros <;> decide +kernel

/-- Int*(0) with its mask, and without. -/
def asking (im : Word) : State := { withStatus (1 ||| im) bench with intPins := 1 }

theorem witness_InterruptTaken :
    (∃ u, (asking 0x400).runNext exec = .next u ∧ (!u.exc && u.busWait == none) = true) ∧
    (asking 0x400).hist = [] ∧ (asking 0x400).takesInterrupt = true ∧
    (∃ u, (asking 0x800).runNext exec = .next u ∧ (!u.exc && u.busWait == none) = true) ∧
    (asking 0x800).hist = [] ∧ (asking 0x800).takesInterrupt = false :=
  ⟨exists_of_nextWith (by decide +kernel), rfl, by decide +kernel, exists_of_nextWith (by decide +kernel), rfl,
    by decide +kernel⟩

/-- The stream is that of 70_reset_and_hazards R839; a soft reset that aborts the refill of line 256. -/
theorem witness_Resets :
    { bench with inputs := [resetInput .soft false] }.inputs = [resetInput .soft false] ∧
    (∃ s : State, s.inputs = [resetInput .soft false] ∧ ∃ w, s.busWait = some w ∧ w.line = some (false, 256)) ∧
    (resetInput .none true).requests = [] ∧ bench.busWait = none ∧ (resetInput .none true).nmi = true ∧
    bench.nmiPrev = false ∧ streamOk 0x02004120 = true := by
  refine ⟨rfl, ⟨{ cached with
    inputs := [resetInput .soft false]
    busWait := some { fetch := false, word := 0, req := .blockRead 0x4000 false, line := some (false, 256), free := 0 } },
    rfl, _, rfl, rfl⟩, ?_⟩
  and_intros <;> decide +kernel

/-- Each clause: the unmapped segments; User mode above its segment; no entry; one entry, valid or not, writable or
not. -/
theorem witness_Translation :
    let found := fun (s : State) (va : DWord) (e : TlbEntry) =>
      e.r.toNat = va.toNat / 2 ^ 62 ∧ (e.g = true ∨ e.asid.toNat = s.cp0.entryHi.toNat % 256) ∧
      ∀ b < 27, e.mask.getLsbD b = false → e.vpn2.getLsbD b = va.getLsbD (13 + b)
    let s := withStatus 0x10 tlbState
    let with0 := fun h : TlbHalf => { s with tlb := s.tlb.set 7 { tlbEntry with lo0 := h } }
    bench.hist = [] ∧ modeOf bench.cp0.status = some .kernel ∧ bench.cp0.status.getLsbD 7 = false ∧
    (0xFFFFFFFF80000000#64).toNat / 2 ^ 29 = 0x7FFFFFFFC ∧ (0xFFFFFFFFBFFFFFFF#64).toNat / 2 ^ 29 = 0x7FFFFFFFD ∧
    modeOf s.cp0.status = some .user ∧ s.cp0.status.getLsbD 5 = false ∧
    (withStatus 0x30 s).cp0.status.getLsbD 5 = true ∧ (∀ i : Fin 48, legalMask s.tlb[i].mask = true) ∧
    (∀ i : Fin 48, ¬ found s 0x410000 s.tlb[i]) ∧ found s 0x409ABC s.tlb[(7 : Fin 48)] ∧
    (∀ j : Fin 48, found s 0x409ABC s.tlb[j] → j = 7) ∧
    (with0 { tlbEntry.lo0 with v := false }).tlb[7].lo0.v = false ∧
    (with0 { tlbEntry.lo0 with d := false }).tlb[7].lo0.d = false ∧ tlbEntry.lo0.v = true ∧ tlbEntry.lo0.d = true := by
  and_intros <;> decide +kernel


/-- No TLB entry matches (ASID 5). -/
def noEntry (st : Word) : State := { withStatus st bench with cp0 := { bench.cp0 with status := st, entryHi := 5 } }

/-- Address `va` is mapped in a mode with Status `st`; or it is illegal there. -/
abbrev mappedAt (st : Word) (va : DWord) : Prop := (noEntry st).translate .load va = .exc (.tlbRefill va false)
abbrev illegalAt (st : Word) (va : DWord) : Prop := (noEntry st).translate .load va = .exc (.addressError va false)

/-- The bounds of each mapped range of the statement, with a Status word of its mode and width. -/
theorem witness_Translation_mapped :
    mappedAt 0x10 0 ∧ mappedAt 0x10 0x7FFFFFFF ∧ mappedAt 0x30 0 ∧ mappedAt 0x30 0xFFFFFFFFFF ∧ mappedAt 0x8 0 ∧
    mappedAt 0x8 0x7FFFFFFF ∧ mappedAt 0x8 0xFFFFFFFFC0000000 ∧ mappedAt 0x8 0xFFFFFFFFDFFFFFFF ∧ mappedAt 0x48 0 ∧
    mappedAt 0x48 0xFFFFFFFFFF ∧ mappedAt 0x48 0x4000000000000000 ∧ mappedAt 0x48 0x400000FFFFFFFFFF ∧
    mappedAt 0x48 0xFFFFFFFFC0000000 ∧ mappedAt 0x48 0xFFFFFFFFDFFFFFFF ∧ mappedAt 0x0 0 ∧ mappedAt 0x0 0x7FFFFFFF ∧
    mappedAt 0x0 0xFFFFFFFFC0000000 ∧ mappedAt 0x0 0xFFFFFFFFFFFFFFFF ∧ mappedAt 0x80 0 ∧
    mappedAt 0x80 0xFFFFFFFFFF ∧ mappedAt 0x80 0x4000000000000000 ∧ mappedAt 0x80 0x400000FFFFFFFFFF ∧
    mappedAt 0x80 0xC000000000000000 ∧ mappedAt 0x80 0xC00000FF7FFFFFFF ∧ mappedAt 0x80 0xFFFFFFFFC0000000 ∧
    mappedAt 0x80 0xFFFFFFFFFFFFFFFF ∧ mappedAt 0x84 0x80000000 ∧ mappedAt 0x84 0xFFFFFFFFFF := by
  and_intros <;> decide +kernel

/-- The bounds of each illegal range. -/
theorem witness_Translation_illegal :
    illegalAt 0x10 0x80000000 ∧ illegalAt 0x10 0xFFFFFFFFFFFFFFFF ∧ illegalAt 0x30 0x10000000000 ∧
    illegalAt 0x30 0xFFFFFFFFFFFFFFFF ∧ illegalAt 0x8 0x80000000 ∧ illegalAt 0x8 0xFFFFFFFFBFFFFFFF ∧
    illegalAt 0x8 0xFFFFFFFFE0000000 ∧ illegalAt 0x8 0xFFFFFFFFFFFFFFFF ∧ illegalAt 0x48 0x10000000000 ∧
    illegalAt 0x48 0x3FFFFFFFFFFFFFFF ∧ illegalAt 0x48 0x4000010000000000 ∧ illegalAt 0x48 0xFFFFFFFFBFFFFFFF ∧
    illegalAt 0x48 0xFFFFFFFFE0000000 ∧ illegalAt 0x48 0xFFFFFFFFFFFFFFFF ∧ illegalAt 0x0 0x80000000 ∧
    illegalAt 0x0 0xFFFFFFFF7FFFFFFF ∧ illegalAt 0x80 0x10000000000 ∧ illegalAt 0x80 0x3FFFFFFFFFFFFFFF ∧
    illegalAt 0x80 0x4000010000000000 ∧ illegalAt 0x80 0x7FFFFFFFFFFFFFFF ∧ illegalAt 0x80 0xC00000FF80000000 ∧
    illegalAt 0x80 0xFFFFFFFF7FFFFFFF := by
  and_intros <;> decide +kernel

/-- The bounds of xkphys and of the segment that ERL unmaps. -/
theorem witness_Translation_unmapped :
    (noEntry 0x80).translate .load 0x9800000FFFFFFFFF = .ok 0xFFFFFFFFF 3 ∧ illegalAt 0x80 0x9800001000000000 ∧
    (noEntry 0x04).translate .load 0x7FFFFFFF = .ok 0x7FFFFFFF 2 := by
  and_intros <;> decide +kernel
end Sys2Proof.Tests
end

/-! ## Proofs: registers of bits with reserved fields -/

namespace Sys2Proof.Proofs
open Sys2Proof.Machine

/-! ### Masks: where a reserved field `z` stays zero -/

section Masks
variable {n : Nat}

/-- A field is zero in a disjunction if it is in both parts. -/
theorem or_reserved {x y z : BitVec n} (hx : x &&& z = 0) (hy : y &&& z = 0) : (x ||| y) &&& z = 0 := by
  rw [BitVec.and_or_distrib_right, hx, hy]; exact BitVec.or_zero

theorem and_reserved {x z : BitVec n} (y : BitVec n) (hx : x &&& z = 0) : (x &&& y) &&& z = 0 := by
  rw [BitVec.and_assoc, BitVec.and_comm y, ← BitVec.and_assoc, hx]; exact BitVec.zero_and

/-- Masking clears every field the mask leaves out. -/
theorem and_mask_reserved (x : BitVec n) {mask z : BitVec n} (hm : mask &&& z = 0) : (x &&& mask) &&& z = 0 := by
  rw [BitVec.and_assoc, hm]; exact BitVec.and_zero

theorem and_not_and (x mask : BitVec n) : (x &&& ~~~ mask) &&& mask = 0 :=
  and_mask_reserved x (by rw [BitVec.and_comm]; exact BitVec.and_not_self mask)

theorem mergeMask_reserved {mask z old : BitVec n} (new : BitVec n) (hm : mask &&& z = 0) (h : old &&& z = 0) :
    mergeMask mask old new &&& z = 0 := or_reserved (and_reserved _ h) (and_mask_reserved _ hm)

/-- Outside the mask the old bits stay. -/
theorem mergeMask_outside (mask old new : BitVec n) : mergeMask mask old new &&& ~~~ mask = old &&& ~~~ mask := by
  unfold mergeMask
  rw [BitVec.and_or_distrib_right, BitVec.and_assoc, BitVec.and_self, and_mask_reserved new (BitVec.and_not_self mask)]
  exact BitVec.or_zero

theorem putBit_reserved {v z : BitVec n} {i : Nat} (b : Bool) (hi : BitVec.twoPow n i &&& z = 0) (h : v &&& z = 0) :
    putBit v i b &&& z = 0 := by
  unfold putBit
  split
  · exact or_reserved h hi
  · exact and_reserved _ h

/-- A field of `k` bits put at bit `sh` stays clear of `z` if the field's place does. -/
theorem field_reserved {k : Nat} (v : BitVec k) (sh : Nat) {z : BitVec n}
    (hz : ((BitVec.allOnes k).setWidth n <<< sh) &&& z = 0) : (v.setWidth n <<< sh) &&& z = 0 := by
  have hv : v.setWidth n = v.setWidth n &&& (BitVec.allOnes k).setWidth n := by
    rw [← BitVec.setWidth_and, BitVec.and_allOnes]
  rw [hv, BitVec.shiftLeft_and_distrib]
  exact and_mask_reserved _ hz

theorem zext_reserved {k : Nat} (v : BitVec k) {z : BitVec n} (hz : (BitVec.allOnes k).setWidth n &&& z = 0) :
    v.setWidth n &&& z = 0 := by
  have := field_reserved v 0 (z := z) (by rwa [BitVec.shiftLeft_zero])
  rwa [BitVec.shiftLeft_zero] at this

end Masks

end Sys2Proof.Proofs

/-! ## Proofs: an invariant of the model's operations is kept by every step

An invariant is checked against the operations that change the state (`KeptByOps`); the walk through the shared
operations, the 176 instructions and the parts of a step around them is done here once (`KeptByOps.step`). -/

namespace Sys2Proof.Proofs
open Sys2Proof.Machine

section
variable {P : State → Prop} {α β : Type} {s t : State}

/-! ### Outcomes that leave a property -/

/-- The outcome's next state, if it has one, has the property. -/
def Leaves (P : State → Prop) : Result → Prop
  | .next t => P t
  | .fault _ => True
  | .refused _ => True

/-- The state a partial result leaves has the property, whether the instruction goes on or ends. -/
def ResLeaves (P : State → Prop) : Res α → Prop
  | .ok _ t => P t
  | .stop o => Leaves P o

theorem leaves_next {r : Result} (h : Leaves P r) (e : r = .next t) : P t := by
  subst e; exact h

theorem ResLeaves.bind {r : Res α} {f : α → State → Res β} (hr : ResLeaves P r)
    (hf : ∀ a u, r = .ok a u → P u → ResLeaves P (f a u)) : ResLeaves P (r.bind f) := by
  cases r with
  | ok a u => exact hf a u rfl hr
  | stop o => exact hr

theorem ResLeaves.finish {r : Res α} {f : α → State → Result} (hr : ResLeaves P r)
    (hf : ∀ a u, r = .ok a u → P u → Leaves P (f a u)) : Leaves P (r.finish f) := by
  cases r with
  | ok a u => exact hf a u rfl hr
  | stop o => exact hr

/-! ### Invariants of the model's operations -/

/-- The fields of the state that an invariant may speak of; the others (program counter, pins, record of late writes,
bus, ...) every operation may change. -/
def tracked (s : State) :=
  (s.gpr, s.cp0, s.tlb, s.fcr31, s.icache, s.dcache, s.wbuf, s.mem, s.busWait, s.cfg)

/-- Every line a pending read refills is one of the 512 of its cache (22_caches R230, R231). -/
def LinesInRange (b : Option BusWait) : Prop := ∀ w ∈ b, ∀ p ∈ w.line, p.2 < 512

/-- Each update of the state that the model names keeps `P`; then every step does (`KeptByOps.step`). The bounds on
indices are there for invariants that speak of the caches: no operation touches a line outside the 512 of each
cache. -/
structure KeptByOps (P : State → Prop) : Prop where
  frame : ∀ {s t : State}, P s → tracked t = tracked s → P t
  -- registers
  writeGpr : ∀ {s : State} (r : Reg) (v : DWord), P s → P (s.writeGpr r v)
  cp0Set : ∀ {s : State} (r : Reg) (v : DWord), P s → P (s.cp0Set r v)
  stepRandom : ∀ {s : State}, P s → P s.stepRandom
  setCH : ∀ {s : State} (hit : Bool), P s → P (s.setCH hit)
  linkAddr : ∀ {s : State} (v : Word), P s → P { s with cp0 := { s.cp0 with llAddr := v } }
  loadedTag : ∀ {s : State} (v : Word) (ecc : BitVec 8), P s →
    P { s with cp0 := { s.cp0 with tagLo := v, ecc := ecc.setWidth 32 } }
  counted : ∀ {s : State} (n : Word), P s → P { s with cp0 := { s.cp0 with count := n } }
  fcr31 : ∀ {s : State} (f : Word), (s.fcr31 &&& ~~~ fcr31Mask = 0 → f &&& ~~~ fcr31Mask = 0) → P s →
    P { s with fcr31 := f }
  -- the TLB
  probed : ∀ {s : State}, P s → P { s with cp0 := { s.cp0 with index := s.probeIndex } }
  tlbRead : ∀ {s : State}, P s → P s.tlbRead
  tlbWrite : ∀ {s : State} (i : BitVec 6), P s → P (s.tlbWrite i)
  -- exceptions and resets
  raise : ∀ {s : State} (e : Exc), P s → P (s.raise e)
  raiseCacheError : ∀ {s : State} (e : ParityError), P s → P (s.raiseCacheError e)
  killedFetch : ∀ {s t : State} (u : State) (k : Nat), P s → P t → P (s.killedFetch t u k)
  eret : ∀ {s : State}, P s → P s.eret
  softEntry : ∀ {s : State}, P s → P s.softEntry
  softReset : ∀ {s : State}, P s → P s.softReset
  coldReset : ∀ {s : State} (st : BitVec 256), P s → Leaves P (s.coldReset st)
  -- memory and the write buffer
  issue : ∀ {s : State} (r : BusReq), P s → P (s.issue r)
  applied : ∀ {s : State} (e : WEntry), P s → P { s with mem := e.apply s.cfg.bigEndian s.mem }
  wroteByte : ∀ {s : State} (a : Nat) (v : Byte), P s → P { s with mem := Memory.write s.mem a v }
  emptied : ∀ {s : State}, P s → P { s with wbuf := [] }
  headLeft : ∀ {s : State} {e : WEntry} {l : List WEntry}, s.wbuf = e :: l → P s → P { s with wbuf := l }
  pushWrite : ∀ {s : State} (pa : PAddr) (n : Nat) (d : DWord), P s → ResLeaves P (s.pushWrite pa n d)
  lineQueued : ∀ {s : State} (pa : PAddr) (d : LineData) (par : BitVec 32) (retained : Bool) (slot : Bool × Nat),
    slot.2 < 512 → P s → P { s with wbuf := [.line pa d par retained slot] }
  -- caches and the pending read
  putDline : ∀ {s : State} {i : Nat} (l : DLine), i < 512 → P s → P (s.putDline i l)
  putIline : ∀ {s : State} {i : Nat} (l : ILine), i < 512 → P s → P (s.putIline i l)
  busWait : ∀ {s : State} (b : Option BusWait), (LinesInRange s.busWait → LinesInRange b) → P s →
    P { s with busWait := b }

/-! ### Indices of cache lines -/

theorem lineIndex_lt (way : Bool) (set : BitVec 8) : lineIndex way set < 512 := by
  have := set.isLt
  unfold lineIndex; split <;> omega

theorem dLookup_lt {va : DWord} {pa : PAddr} {i : Nat} (h : s.dLookup va pa = some i) : i < 512 := by
  unfold State.dLookup at h
  dsimp only at h
  split at h
  · split at h <;> cases h <;> exact lineIndex_lt _ _
  · cases h; exact lineIndex_lt _ _
  · cases h; exact lineIndex_lt _ _
  · cases h

theorem iHit_lt {va : DWord} {pa : PAddr} {i : Nat} (h : s.iHit va pa = some i) : i < 512 := by
  unfold State.iHit at h
  dsimp only at h
  split at h
  · split at h <;> cases h <;> exact lineIndex_lt _ _
  · cases h; exact lineIndex_lt _ _
  · cases h; exact lineIndex_lt _ _
  · cases h

theorem dFind_lt {va : DWord} {pa : PAddr} {i : Nat} (h : s.dFind va pa = .ok i t) : i < 512 := by
  unfold State.dFind at h
  split at h
  · cases h; exact dLookup_lt ‹_›
  · obtain ⟨_, u, _, h⟩ := bind_ok.mp h
    obtain ⟨_, v, _, h⟩ := bind_ok.mp h
    obtain ⟨_, w, _, h⟩ := bind_ok.mp h
    cases h
    exact lineIndex_lt _ _

namespace KeptByOps
variable (K : KeptByOps P)
include K

/-! ### Ends of instructions -/

theorem note (l : Late) (h : P s) : P (s.note l) := K.frame h rfl

theorem advance (h : P s) : P s.advance := by
  unfold State.advance
  split <;> exact K.frame h rfl

theorem retire (h : P s) : P s.retire := K.advance (K.stepRandom h)

theorem done (h : P s) : Leaves P s.done := K.retire h

theorem except (e : Exc) (h : P s) : Leaves P (s.except e) := K.raise e h

theorem needs64 {k : Result} (h : P s) (hk : Leaves P k) : Leaves P (s.needs64 k) := by
  unfold State.needs64
  split
  · exact hk
  · exact K.except _ h

theorem needsCop {z : Nat} {k : Result} (h : P s) (hk : Leaves P k) : Leaves P (s.needsCop z k) := by
  unfold State.needsCop
  split
  · exact hk
  · exact K.except _ h

/-! ### General registers, HI and LO -/

theorem setGpr (r : Reg) (v : DWord) (h : P s) : Leaves P (s.setGpr r v) := K.done (K.writeGpr r v h)

theorem writeGprLate (r : Reg) (v : DWord) (h : P s) : P (s.writeGprLate r v) := by
  unfold State.writeGprLate
  dsimp only
  split
  · exact K.writeGpr r v h
  · exact K.note _ (K.writeGpr r v h)

theorem trap32 (ok overflow : Bool) (r : Reg) (v : Word) (h : P s) : Leaves P (s.trap32 ok overflow r v) := by
  unfold State.trap32
  by_cases hc : (if ok then overflow else s.pick .overflow32) = true
  · rw [if_pos hc]; exact K.except _ h
  · rw [if_neg hc]; exact K.setGpr _ _ h

theorem trap64 (overflow : Bool) (r : Reg) (v : DWord) (h : P s) : Leaves P (s.trap64 overflow r v) := by
  unfold State.trap64
  split
  · exact K.except _ h
  · exact K.setGpr _ _ h

theorem trapIf (c : Bool) (h : P s) : Leaves P (s.trapIf c) := by
  unfold State.trapIf
  split
  · exact K.except _ h
  · exact K.done h

theorem loseHiLoReads (hi lo : Bool) (h : P s) : P (s.loseHiLoReads hi lo) := by
  unfold State.loseHiLoReads
  refine List.foldlRecOn _ _ h fun u hu x _ => ?_
  have hset : ∀ (c : Bool) (r : Reg) (v : DWord), P (if c then u.writeGpr r v else u) := by
    intro c r v
    cases c
    · exact hu
    · exact K.writeGpr r v hu
  split
  · exact hset _ _ _
  · exact hu

theorem setHiLo (hi lo : DWord) (h : P s) : Leaves P (s.setHiLo hi lo) :=
  K.done (K.frame (K.loseHiLoReads true true h) rfl)

theorem setHiLo32 (defined : Bool) (hi lo : Word) (h : P s) : Leaves P (s.setHiLo32 defined hi lo) := by
  unfold State.setHiLo32
  split <;> exact K.setHiLo _ _ h

theorem setHiLo64 (defined : Bool) (hi lo : DWord) (h : P s) : Leaves P (s.setHiLo64 defined hi lo) := by
  unfold State.setHiLo64
  split <;> exact K.setHiLo _ _ h

theorem readHiLo (isHi : Bool) (r : Reg) (h : P s) : Leaves P (s.readHiLo isHi r) :=
  K.done (K.frame (K.writeGpr r (if isHi then s.hi else s.lo) h) rfl)

theorem movedToHiLo (hi lo : Bool) (a b : DWord) (h : P s) :
    Leaves P { s.loseHiLoReads hi lo with hi := a, lo := b, hiloFresh := false }.done :=
  K.done (K.frame (K.loseHiLoReads hi lo h) rfl)

/-! ### Branches -/

theorem slotJump (p : Pending) (link : Reg) (h : P s) : Leaves P (s.slotJump p link) :=
  K.frame (K.stepRandom (K.writeGpr link (s.freeWord (.slotLink link))
    (K.writeGpr p.link (s.freeWord (.slotLink p.link)) h))) rfl

theorem jump (target : DWord) (link : Reg) (v : DWord) (h : P s) : Leaves P (s.jump target link v) := by
  unfold State.jump
  split
  · exact K.slotJump _ _ h
  · exact K.frame (K.stepRandom (K.writeGpr link v h)) rfl

theorem branch (taken likely : Bool) (offset : BitVec 16) (link : Reg) (h : P s) :
    Leaves P (s.branch taken likely offset link) := by
  unfold State.branch
  split
  · exact K.jump _ _ _ h
  · split
    · split
      · exact K.slotJump _ _ h
      · exact K.frame (K.stepRandom (K.writeGpr link (s.pc + 8) h)) rfl
    · exact K.jump _ _ _ h

/-! ### Floating point -/

theorem putCause (x : BitVec 6) (h : P s) : P { s with fcr31 := Machine.putCause s.fcr31 x } :=
  K.fcr31 _ (mergeMask_reserved _ (by decide)) h

theorem putFlags (x : BitVec 5) (h : P s) : P { s with fcr31 := Machine.putFlags s.fcr31 x } :=
  K.fcr31 _ (mergeMask_reserved _ (by decide)) h

theorem setCond (c : Bool) (h : P s) : P (State.setCond c s) :=
  K.frame (K.fcr31 (putC s.fcr31 c) (putBit_reserved c (by decide)) h) rfl

theorem setFpr32 (n : Reg) (v : Word) (h : P s) : P (s.setFpr32 n v) := K.frame h rfl

theorem setFpr64 (n : Reg) (v : DWord) (h : P s) : P (s.setFpr64 n v) := K.frame h rfl

theorem fpStore (wide : Bool) (n : Reg) (v : DWord) (h : P s) : P (State.fpStore wide n v s) := by
  cases wide
  · exact K.setFpr32 _ _ h
  · exact K.setFpr64 _ _ h

theorem fpFinish (x : BitVec 6) {store : State → State} (h : P s) (hs : ∀ {u}, P u → P (store u)) :
    Leaves P (s.fpFinish x store) := by
  have hc := K.putCause x h
  unfold State.fpFinish
  dsimp only
  split
  · exact K.except _ hc
  · exact K.done (hs (K.putFlags (fcrFlags (Machine.putCause s.fcr31 x) ||| x.setWidth 5) hc))

theorem fpOdd {store : State → State} (h : P s) (hs : ∀ {u}, P u → P (store u)) :
    Leaves P (s.fpOdd store) := by
  have hf := K.putFlags ((s.freeWord .oddStatus).extractLsb' 6 5)
    (K.putCause ((s.freeWord .oddStatus).extractLsb' 0 6) h)
  unfold State.fpOdd
  dsimp only
  split
  · exact K.except _ hf
  · exact K.done (hs hf)

theorem fpUnimplemented (h : P s) : Leaves P s.fpUnimplemented := K.fpFinish _ h id

theorem fpStart {wideOp : Bool} {k : Result} (h : P s) (hk : Leaves P k) : Leaves P (s.fpStart wideOp k) := by
  refine K.needsCop h ?_
  split
  · exact K.needs64 h hk
  · exact hk

theorem fpReserved (fmt : BitVec 5) (h : P s) : Leaves P (s.fpReserved fmt) := K.fpStart h (K.fpUnimplemented h)

theorem fpUnary (f : FpFmt) (destWide : Bool) (fs fd : Reg) (op : Nat → BitVec 6 × DWord) (h : P s) :
    Leaves P (s.fpUnary f destWide fs fd op) := by
  unfold State.fpUnary
  split
  · exact K.fpOdd h (K.fpStore _ _ _)
  · dsimp only
    split
    · exact K.fpUnimplemented h
    · exact K.fpFinish _ h (K.fpStore _ _ _)

theorem fpArith1 (fmt : BitVec 5) (fs fd : Reg) (op : FpFmt → DWord → Nat → BitVec 6 × DWord) (h : P s) :
    Leaves P (s.fpArith1 fmt fs fd op) := by
  refine K.fpStart h ?_
  split
  · exact K.fpUnimplemented h
  · exact K.fpUnary _ _ _ _ _ h

theorem fpArith2 (fmt : BitVec 5) (ft fs fd : Reg)
    (op : FpFmt → FpMode → DWord → FpVal → FpVal → BitVec 6 × DWord) (h : P s) :
    Leaves P (s.fpArith2 fmt ft fs fd op) := by
  refine K.fpStart h ?_
  split
  · exact K.fpUnimplemented h
  · split
    · exact K.fpOdd h (K.fpStore _ _ _)
    · dsimp only
      split
      · exact K.fpUnimplemented h
      · exact K.fpFinish _ h (K.fpStore _ _ _)

theorem fpToFixed (long : Bool) (fmt : BitVec 5) (fs fd : Reg) (rm : BitVec 2) (h : P s) :
    Leaves P (s.fpToFixed long fmt fs fd rm) := by
  refine K.fpStart h ?_
  split
  · exact K.fpUnimplemented h
  · split
    · exact K.fpOdd h (K.fpStore _ _ _)
    · dsimp only
      split
      · exact K.fpUnimplemented h
      · exact K.fpFinish _ h (K.fpStore _ _ _)

theorem fpFromFixed (g : FpFmt) (long : Bool) (fs fd : Reg) (h : P s) :
    Leaves P (s.fpFromFixed g long fs fd) := by
  unfold State.fpFromFixed
  split
  · exact K.fpOdd h (K.fpStore _ _ _)
  · exact K.fpFinish _ h (K.fpStore _ _ _)

theorem fpToFloat (g src : FpFmt) (srcCode fmt : BitVec 5) (fs fd : Reg) (h : P s) :
    Leaves P (s.fpToFloat g src srcCode fmt fs fd) := by
  refine K.fpStart h ?_
  split
  · exact K.fpUnary _ _ _ _ _ h
  · split
    · exact K.fpFromFixed _ _ _ _ h
    · split
      · exact K.fpFromFixed _ _ _ _ h
      · exact K.fpUnimplemented h

theorem movFmt (fmt : BitVec 5) (fs fd : Reg) (h : P s) : Leaves P (execMovFmt fmt fs fd s) := by
  refine K.fpStart h ?_
  split
  · exact K.fpUnimplemented h
  · split
    · exact K.fpOdd h (K.fpStore _ _ _)
    · exact K.fpFinish _ h (K.fpStore _ _ _)

theorem cCondFmt (fmt : BitVec 5) (ft fs : Reg) (cond : BitVec 4) (h : P s) :
    Leaves P (execCCondFmt fmt ft fs cond s) := by
  refine K.fpStart h ?_
  split
  · exact K.fpUnimplemented h
  · split
    · exact K.fpOdd h (K.setCond _)
    · exact K.fpFinish _ h (K.setCond _)

theorem noteFgr (old : State) (n : Reg) (h : P s) : P (s.noteFgr old n) := by
  unfold State.noteFgr
  split
  · exact h
  · exact K.note _ h

theorem ctc1 (rt fs : Reg) (h : P s) : Leaves P (execCtc1 rt fs s) := by
  have hv : P { s with fcr31 := low32 (s.readGpr rt) &&& fcr31Mask } :=
    K.fcr31 _ (fun _ => and_mask_reserved _ (by decide)) h
  refine K.needsCop h ?_
  split
  · split
    · exact K.except _ hv
    · refine K.done ?_
      unfold State.noteFcr
      dsimp only
      split
      · exact K.note _ hv
      · exact K.note _ (K.note _ hv)
  · exact K.done h

/-! ### The write buffer and the bus -/

theorem sendWrite (e : WEntry) (h : P s) : ResLeaves P (s.sendWrite e) := by
  have hi := K.issue (s.requestOf e) h
  unfold State.sendWrite
  dsimp only
  split
  · trivial
  · split
    · exact K.applied e hi
    · exact hi

theorem sendAll (l : List WEntry) (h : P s) : ResLeaves P (State.sendAll l s) := by
  induction l generalizing s with
  | nil => exact h
  | cons e l ih => exact (K.sendWrite e h).bind fun _ _ _ hu => ih hu

theorem drain (h : P s) : ResLeaves P s.drain := K.sendAll _ (K.emptied h)

theorem drainHead (h : P s) : ResLeaves P s.drainHead := by
  unfold State.drainHead
  split
  · exact h
  · exact K.sendWrite _ (K.headLeft ‹_› h)

theorem drainOne (h : P s) : ResLeaves P s.drainOne := by
  unfold State.drainOne
  split
  · exact h
  · split
    · exact h
    · exact K.drainHead h

theorem pushLine (pa : PAddr) (d : LineData) (par : BitVec 32) (retained : Bool) {slot : Bool × Nat}
    (hs : slot.2 < 512) (h : P s) : ResLeaves P (s.pushLine pa d par retained slot) :=
  (K.drain h).bind fun _ u _ hu =>
    K.lineQueued pa d par retained slot hs (K.note (.code pa 32 (memLine u.pendingMem pa)) hu)

theorem busRead (req : BusReq) (pa : PAddr) (fetch : Bool) {line : Option (Bool × Nat)}
    (hl : ∀ p ∈ line, p.2 < 512) (h : P s) : ResLeaves P (s.busRead req pa fetch line) := by
  unfold State.busRead
  split
  · exact K.frame h rfl
  · refine (K.drain h).bind fun _ u _ hu => ?_
    have hi := K.issue req hu
    dsimp only
    split
    · exact K.frame (K.busWait (some { fetch := fetch, word := 0, req := req, line := line, free := s.free })
        (fun _ w hw => by cases hw; exact hl) hi) rfl
    · exact hi

theorem parityError (e : ParityError) (h : P s) : ResLeaves P (s.parityError e) := by
  unfold State.parityError
  split
  · exact h
  · exact K.raiseCacheError e h

theorem checkParity (e : Option ParityError) (h : P s) : ResLeaves P (s.checkParity e) := by
  cases e with
  | none => exact h
  | some e => exact K.parityError e h

theorem checkResponse (cs : List DataCycle) (fetch er : Bool) (va : DWord) (pa : PAddr) (h : P s) :
    ResLeaves P (s.checkResponse cs fetch er va pa) := by
  refine (K.checkParity _ h).bind fun _ u _ hu => ?_
  split
  · exact K.except _ hu
  · exact hu

/-! ### The caches -/

theorem breakLink (i : Nat) (h : P s) : P (s.breakLink i) := K.frame h rfl

theorem writeBack (va : DWord) (pa : PAddr) {i : Nat} (retained : Bool) (hi : i < 512) (h : P s) :
    ResLeaves P (s.writeBack va pa i retained) :=
  (K.pushLine _ _ _ _ hi h).bind fun _ _ _ hu => K.checkParity _ hu

theorem evict (va : DWord) (pa : PAddr) {i : Nat} (hi : i < 512) (h : P s) : ResLeaves P (s.evict va pa i) := by
  unfold State.evict
  dsimp only
  split
  · exact K.writeBack va pa false hi h
  · exact h

theorem refillD (va : DWord) (pa : PAddr) (h : P s) : ResLeaves P (s.refillD va pa) := by
  have hi : s.victim false va < 512 := lineIndex_lt _ _
  refine (K.busRead _ _ _ (by rintro p ⟨⟩; exact hi) h).bind fun cs u _ hu => ?_
  refine (K.evict va pa hi hu).bind fun _ v _ hv => ?_
  exact (K.checkResponse _ _ _ _ _ (K.putDline _ hi (K.breakLink _ hv))).bind fun _ _ _ hw => hw

theorem dFind (va : DWord) (pa : PAddr) (h : P s) : ResLeaves P (s.dFind va pa) := by
  unfold State.dFind
  split
  · exact h
  · exact K.refillD va pa h

theorem uncachedRead (va : DWord) (pa : PAddr) (n : Nat) (fetch : Bool) (h : P s) :
    ResLeaves P (s.uncachedRead va pa n fetch) :=
  (K.busRead _ _ _ (by rintro p ⟨⟩) h).bind fun _ _ _ hu =>
    (K.checkResponse _ _ _ _ _ hu).bind fun _ _ _ hv => hv

theorem readDLine (va : DWord) (pa : PAddr) (i : Nat) (h : P s) : ResLeaves P (s.readDLine va pa i) :=
  (K.checkParity _ h).bind fun _ _ _ hu => hu

theorem memRead (va : DWord) (pa : PAddr) (n : Nat) (attr : BitVec 3) (h : P s) :
    ResLeaves P (s.memRead va pa n attr) := by
  unfold State.memRead
  split
  · exact K.uncachedRead _ _ _ _ h
  · exact (K.dFind va pa h).bind fun _ _ _ hu => K.readDLine _ _ _ hu

theorem writeDLine {i : Nat} (pa : PAddr) (n : Nat) (d : DWord) (back : Bool) (hi : i < 512) (h : P s) :
    P (s.writeDLine i pa n d back) := K.putDline _ hi h

theorem storeHit (va : DWord) (pa : PAddr) (n : Nat) (d : DWord) (attr : BitVec 3) {i : Nat} (hi : i < 512)
    (h : P s) : ResLeaves P (s.storeHit va pa n d attr i) := by
  refine (K.checkParity _ h).bind fun _ u _ hu => ?_
  split
  · exact K.writeDLine _ _ _ _ hi hu
  · exact K.pushWrite _ _ _ (K.writeDLine _ _ _ _ hi hu)

theorem memWrite (va : DWord) (pa : PAddr) (n : Nat) (d : DWord) (attr : BitVec 3) (h : P s) :
    ResLeaves P (s.memWrite va pa n d attr) := by
  unfold State.memWrite
  split
  · exact K.pushWrite _ _ _ h
  · split
    · split
      · exact K.storeHit _ _ _ _ _ (dLookup_lt ‹_›) h
      · exact K.pushWrite _ _ _ h
    · exact (K.dFind va pa h).bind fun _ _ hf hu => K.storeHit _ _ _ _ _ (dFind_lt hf) hu

/-! ### Instruction fetch -/

theorem refillI (va : DWord) (pa : PAddr) (h : P s) : ResLeaves P (s.refillI va pa) := by
  have hi : s.victim true va < 512 := lineIndex_lt _ _
  refine (K.busRead _ _ _ (by rintro p ⟨⟩; exact hi) h).bind fun cs u _ hu => ?_
  exact (K.checkResponse _ _ _ _ _ (K.putIline _ hi hu)).bind fun _ _ _ hv => hv

theorem readILine (va : DWord) (pa : PAddr) (l : ILine) (h : P s) : ResLeaves P (s.readILine va pa l) :=
  (K.checkParity _ h).bind fun _ _ _ hu => hu

theorem fetchWord (va : DWord) (pa : PAddr) (attr : BitVec 3) (h : P s) :
    ResLeaves P (s.fetchWord va pa attr) := by
  unfold State.fetchWord
  split
  · exact (K.uncachedRead _ _ _ _ h).bind fun _ _ _ hu => hu
  · split
    · exact K.readILine _ _ _ h
    · exact (K.refillI va pa h).bind fun _ _ _ hu => K.readILine _ _ _ hu

/-! ### Loads and stores -/

theorem aligned (va : DWord) (n : Nat) (store : Bool) (h : P s) : ResLeaves P (s.aligned va n store) := by
  unfold State.aligned
  split
  · exact h
  · exact K.except _ h

theorem xlate (k : AccessKind) (va : DWord) (h : P s) : ResLeaves P (s.xlate k va) := by
  unfold State.xlate
  split
  · exact h
  · exact K.except _ h

theorem fetch (h : P s) : ResLeaves P s.fetch :=
  (K.aligned _ _ _ h).bind fun _ _ _ hu => (K.xlate _ _ hu).bind fun _ _ _ hv => K.fetchWord _ _ _ hv

theorem reference (k : AccessKind) (va : DWord) (n : Nat) (h : P s) : ResLeaves P (s.reference k va n) :=
  (K.aligned _ _ _ h).bind fun _ _ _ hu => K.xlate _ _ hu

theorem readDatum (va : DWord) (n : Nat) (x : PAddr × BitVec 3) (h : P s) : ResLeaves P (s.readDatum va n x) :=
  (K.memRead _ _ _ _ h).bind fun _ _ _ hu => hu

theorem writeDatum (va : DWord) (n : Nat) (v : DWord) (x : PAddr × BitVec 3) (h : P s) :
    ResLeaves P (s.writeDatum va n v x) := K.memWrite _ _ _ _ _ h

theorem loadDatum (va : DWord) (n : Nat) (h : P s) : ResLeaves P (s.loadDatum va n) :=
  (K.reference _ _ _ h).bind fun _ _ _ hu => K.readDatum _ _ _ hu

theorem storeDatum (va : DWord) (n : Nat) (v : DWord) (h : P s) : ResLeaves P (s.storeDatum va n v) :=
  (K.reference _ _ _ h).bind fun _ _ _ hu => K.writeDatum _ _ _ _ hu

theorem loadTo (base rt : Reg) (offset : BitVec 16) (n : Nat) (ext : DWord → DWord) (h : P s) :
    Leaves P (s.loadTo base rt offset n ext) :=
  (K.loadDatum _ _ h).finish fun _ _ _ hu => K.setGpr _ _ hu

theorem storeFrom (base rt : Reg) (offset : BitVec 16) (n : Nat) (h : P s) :
    Leaves P (s.storeFrom base rt offset n) :=
  (K.storeDatum _ _ _ h).finish fun _ _ _ hu => K.done hu

theorem loadPartial (base rt : Reg) (offset : BitVec 16) (left : Bool) (n : Nat) (h : P s) :
    Leaves P (s.loadPartial base rt offset left n) :=
  (K.xlate _ _ h).finish fun _ _ _ hu => (K.memRead _ _ _ _ hu).finish fun _ _ _ hv => K.setGpr _ _ hv

theorem storePartial (base rt : Reg) (offset : BitVec 16) (left : Bool) (n : Nat) (h : P s) :
    Leaves P (s.storePartial base rt offset left n) :=
  (K.xlate _ _ h).finish fun _ _ _ hu => (K.memWrite _ _ _ _ _ hu).finish fun _ _ _ hv => K.done hv

theorem loadLinked (base rt : Reg) (offset : BitVec 16) (n : Nat) (ext : DWord → DWord) (h : P s) :
    Leaves P (s.loadLinked base rt offset n ext) :=
  (K.reference _ _ _ h).finish fun x _ _ hu => (K.readDatum _ _ _ hu).finish fun _ _ _ hv =>
    (K.drain hv).finish fun _ _ _ hw => K.setGpr _ _ (K.frame (K.linkAddr (x.1.extractLsb' 4 32) hw) rfl)

theorem storeConditional (base rt : Reg) (offset : BitVec 16) (n : Nat) (h : P s) :
    Leaves P (s.storeConditional base rt offset n) := by
  refine (K.reference _ _ _ h).finish fun x u _ hu => ?_
  have hw : ResLeaves P (if s.llbit then u.writeDatum (s.ea base offset) n (s.readGpr rt) x else .ok () u) := by
    split
    · exact K.writeDatum _ _ _ _ hu
    · exact hu
  exact hw.finish fun _ _ _ hv => (K.drain hv).finish fun _ _ _ hw => K.setGpr _ _ hw

/-- LWC2, LDC2: what was read is lost. -/
theorem loadDiscarded (va : DWord) (n : Nat) (h : P s) :
    Leaves P ((s.loadDatum va n).finish fun _ s1 => s1.done) :=
  (K.loadDatum _ _ h).finish fun _ _ _ hu => K.done hu

/-- SWC1, SDC1, SWC2, SDC2. -/
theorem storeValue (va : DWord) (n : Nat) (v : DWord) (h : P s) :
    Leaves P ((s.storeDatum va n v).finish fun _ s1 => s1.done) :=
  (K.storeDatum _ _ _ h).finish fun _ _ _ hu => K.done hu

theorem sync (h : P s) : Leaves P (execSync s) := (K.drain h).finish fun _ _ _ hu => K.done hu

/-! ### CACHE -/

theorem changeI {i : Nat} (l : ILine) (hi : i < 512) (h : P s) : P (s.changeI i l) := K.note _ (K.putIline l hi h)

theorem forceD {i : Nat} (va : DWord) (hi : i < 512) (h : P s) : P (s.forceD i va) := by
  unfold State.forceD
  split
  · exact K.putDline _ hi h
  · exact h

theorem forceI {i : Nat} (va : DWord) (hi : i < 512) (h : P s) : P (s.forceI i va) := by
  unfold State.forceI
  split
  · exact K.putIline _ hi h
  · exact h

theorem missed (h : P s) : Leaves P (s.setCH false).done := K.done (K.setCH false h)

theorem loadTag (tag : BitVec 24) (state : BitVec 2) (fifo par : Bool) (ecc : BitVec 8) (h : P s) :
    Leaves P (s.loadTag tag state fifo par ecc) := K.done (K.loadedTag _ ecc h)

theorem writeBackInvalidate {i : Nat} (va : DWord) (pa : PAddr) (hi : i < 512) (h : P s) :
    ResLeaves P (s.writeBackInvalidate i va pa) :=
  (K.evict va pa hi h).bind fun _ _ _ hu => K.forceD va hi (K.putDline _ hi (K.breakLink i hu))

theorem cacheIndexInvalidateI (va : DWord) (pa : PAddr) (h : P s) : Leaves P (s.cacheIndexInvalidateI va pa) :=
  K.done (K.changeI _ (lineIndex_lt _ _) h)

theorem cacheIndexWriteBackD (va : DWord) (pa : PAddr) (h : P s) : Leaves P (s.cacheIndexWriteBackD va pa) :=
  (K.writeBackInvalidate va pa (lineIndex_lt _ _) h).finish fun _ _ _ hu => K.done hu

theorem cacheIndexStoreTagI (va : DWord) (h : P s) : Leaves P (s.cacheIndexStoreTagI va) :=
  K.done (K.changeI _ (lineIndex_lt _ _) h)

theorem cacheIndexStoreTagD (va : DWord) (h : P s) : Leaves P (s.cacheIndexStoreTagD va) :=
  K.done (K.putDline _ (lineIndex_lt _ _) (K.breakLink _ h))

theorem cacheCreateDirty (va : DWord) (pa : PAddr) (h : P s) : Leaves P (s.cacheCreateDirty va pa) := by
  unfold State.cacheCreateDirty
  split
  · exact K.done (K.putDline _ (dLookup_lt ‹_›) h)
  · have hi : s.victim false va < 512 := lineIndex_lt _ _
    exact (K.evict va pa hi h).finish fun _ _ _ hu => K.done (K.putDline _ hi (K.breakLink _ hu))

theorem cacheHitInvalidateI (va : DWord) (pa : PAddr) (h : P s) : Leaves P (s.cacheHitInvalidateI va pa) := by
  unfold State.cacheHitInvalidateI
  split
  · exact K.done (K.setCH true (K.changeI _ (iHit_lt ‹_›) h))
  · exact K.missed h

theorem cacheHitInvalidateD (va : DWord) (pa : PAddr) (h : P s) : Leaves P (s.cacheHitInvalidateD va pa) := by
  unfold State.cacheHitInvalidateD
  split
  · exact K.done (K.setCH true (K.putDline _ (dLookup_lt ‹_›) (K.breakLink _ h)))
  · exact K.missed h

theorem cacheFill (va : DWord) (pa : PAddr) (h : P s) : Leaves P (s.cacheFill va pa) := by
  have hi : indexOf va < 512 := lineIndex_lt _ _
  refine (K.busRead _ _ _ (by rintro p ⟨⟩; exact hi) h).finish fun cs u _ hu => ?_
  have hfilled : ∀ (c : Bool) (bad good : ILine), P (if c then u.changeI (indexOf va) bad
      else (u.changeI (indexOf va) good).forceI (indexOf va) va) := by
    intro c bad good
    cases c
    · exact K.forceI va hi (K.changeI _ hi hu)
    · exact K.changeI _ hi hu
  exact (K.checkResponse _ _ _ _ _ (hfilled _ _ _)).finish fun _ _ _ hv => K.done hv

theorem cacheHitWriteBackInvalidate (va : DWord) (pa : PAddr) (h : P s) :
    Leaves P (s.cacheHitWriteBackInvalidate va pa) := by
  unfold State.cacheHitWriteBackInvalidate
  split
  · exact (K.writeBackInvalidate va pa (dLookup_lt ‹_›) h).finish fun _ _ _ hu => K.done (K.setCH true hu)
  · exact K.missed h

theorem cacheHitWriteBackI (va : DWord) (pa : PAddr) (h : P s) : Leaves P (s.cacheHitWriteBackI va pa) := by
  unfold State.cacheHitWriteBackI
  split
  · rename_i i hit
    exact (K.pushLine _ _ _ _ (iHit_lt hit) h).finish fun _ _ _ hu =>
      (K.checkParity _ hu).finish fun _ _ _ hv => K.done (K.forceI va (iHit_lt hit) (K.setCH true hv))
  · exact K.missed h

theorem cacheHitWriteBackD (va : DWord) (pa : PAddr) (h : P s) : Leaves P (s.cacheHitWriteBackD va pa) := by
  unfold State.cacheHitWriteBackD
  split
  · rename_i i hit
    have hi := dLookup_lt hit
    refine ResLeaves.finish (P := P) ?_ fun _ _ _ hu => K.done (K.setCH true (K.forceD va hi hu))
    split
    · exact (K.writeBack va pa true hi h).bind fun _ _ _ hu => K.putDline _ hi hu
    · exact h
  · exact K.missed h

theorem cacheOp (op : BitVec 5) (va : DWord) (pa : PAddr) (h : P s) : Leaves P (s.cacheOp op va pa) := by
  unfold State.cacheOp
  split
  · exact K.cacheIndexInvalidateI va pa h
  · exact K.cacheIndexWriteBackD va pa h
  · exact K.loadTag _ _ _ _ _ h
  · exact K.loadTag _ _ _ _ _ h
  · exact K.cacheIndexStoreTagI va h
  · exact K.cacheIndexStoreTagD va h
  · exact K.cacheCreateDirty va pa h
  · exact K.cacheHitInvalidateI va pa h
  · exact K.cacheHitInvalidateD va pa h
  · exact K.cacheFill va pa h
  · exact K.cacheHitWriteBackInvalidate va pa h
  · exact K.cacheHitWriteBackI va pa h
  · exact K.cacheHitWriteBackD va pa h
  · trivial

theorem cache (base : Reg) (op : BitVec 5) (offset : BitVec 16) (h : P s) :
    Leaves P (execCache base op offset s) := by
  refine K.needsCop h ((K.xlate _ _ h).finish fun x u _ hu => ?_)
  split
  · trivial
  · exact (K.drain hu).finish fun _ _ _ hv => K.cacheOp _ _ _ hv

/-! ### System control -/

theorem noteCp0 (old : State) (r : Reg) (h : P s) : P (s.noteCp0 old r) := by
  have h1 : P (if r = 1 then s else s.note (.cp0 r (old.cp0Stored r))) := by
    split
    · exact h
    · exact K.note _ h
  unfold State.noteCp0
  dsimp only
  split
  · exact K.note _ h1
  · split
    · exact K.note _ h1
    · exact h1

theorem movedToCp0 (old : State) (r : Reg) (v : DWord) (h : P s) :
    Leaves P (.next ((s.retire.cp0Set r v).noteCp0 old r)) := K.noteCp0 _ _ (K.cp0Set _ _ (K.retire h))

theorem tlbp (h : P s) : Leaves P (execTlbp s) :=
  K.needsCop h (K.done (K.note _ (K.note _ (K.probed h))))

theorem tlbr (h : P s) : Leaves P (execTlbr s) :=
  K.needsCop h (K.done (K.note _ (K.note _ (K.note _ (K.note _ (K.tlbRead h))))))

theorem execEret (h : P s) : Leaves P (Machine.execEret s) := by
  have ht : P s.eret.stepRandom := K.stepRandom (K.eret h)
  refine K.needsCop h ?_
  show P _
  split
  · exact K.frame (K.writeGpr _ (s.freeWord (.slotLink _)) ht) rfl
  · exact ht

/-! ### Every instruction -/

/-- Running an instruction keeps `P`: the arms are grouped by the shared operation an instruction ends in. -/
theorem exec (i : Instr) (h : P s) : Leaves P (Machine.exec i s) := by
  cases i with
  -- 32-bit and 64-bit arithmetic that traps
  | add | addi | sub => exact K.trap32 _ _ _ _ h
  | dadd | daddi | dsub => exact K.needs64 h (K.trap64 _ _ _ h)
  -- results that go to a general register
  | addu | addiu | subu | and | andi | or | ori | xor | xori | nor | lui | slt | slti | sltu | sltiu
  | sll | sllv | srl | srlv | sra | srav => exact K.setGpr _ _ h
  | daddu | daddiu | dsubu | dsll | dsllv | dsll32 | dsrl | dsrlv | dsrl32 | dsra | dsrav | dsra32 =>
    exact K.needs64 h (K.setGpr _ _ h)
  -- HI and LO
  | mult | multu | div | divu => exact K.setHiLo32 _ _ _ h
  | dmult | dmultu => exact K.needs64 h (K.setHiLo _ _ h)
  | ddiv | ddivu => exact K.needs64 h (K.setHiLo64 _ _ _ h)
  | mfhi | mflo => exact K.readHiLo _ _ h
  | mthi | mtlo => exact K.movedToHiLo _ _ _ _ h
  -- jumps and branches
  | j | jal | jr => exact K.jump _ _ _ h
  | jalr =>
    unfold Machine.exec execJalr
    dsimp only
    split <;> exact K.jump _ _ _ h
  | beq | beql | bne | bnel | blez | blezl | bgtz | bgtzl | bltz | bltzl | bgez | bgezl | bltzal | bltzall | bgezal
  | bgezall => exact K.branch _ _ _ _ h
  | bc0f | bc0t | bc0fl | bc0tl | bc1f | bc1t | bc1fl | bc1tl | bc2f | bc2t | bc2fl | bc2tl =>
    exact K.needsCop h (K.branch _ _ _ _ h)
  -- traps
  | tge | tgei | tgeu | tgeiu | tlt | tlti | tltu | tltiu | teq | teqi | tne | tnei => exact K.trapIf _ h
  | syscall | brk => exact K.except _ h
  -- loads and stores
  | lb | lbu | lh | lhu | lw => exact K.loadTo _ _ _ _ _ h
  | lwu | ld => exact K.needs64 h (K.loadTo _ _ _ _ _ h)
  | sb | sh | sw => exact K.storeFrom _ _ _ _ h
  | sd => exact K.needs64 h (K.storeFrom _ _ _ _ h)
  | lwl | lwr => exact K.loadPartial _ _ _ _ _ h
  | ldl | ldr => exact K.needs64 h (K.loadPartial _ _ _ _ _ h)
  | swl | swr => exact K.storePartial _ _ _ _ _ h
  | sdl | sdr => exact K.needs64 h (K.storePartial _ _ _ _ _ h)
  | ll => exact K.loadLinked _ _ _ _ _ h
  | lld => exact K.needs64 h (K.loadLinked _ _ _ _ _ h)
  | sc => exact K.storeConditional _ _ _ _ h
  | scd => exact K.needs64 h (K.storeConditional _ _ _ _ h)
  | sync => exact K.sync h
  | cache => exact K.cache _ _ _ h
  | lwc1 => exact K.needsCop h ((K.loadDatum _ _ h).finish fun _ _ _ hu => K.done (K.setFpr32 _ _ hu))
  | ldc1 => exact K.needsCop h ((K.loadDatum _ _ h).finish fun _ _ _ hu => K.done (K.setFpr64 _ _ hu))
  | lwc2 | ldc2 => exact K.needsCop h (K.loadDiscarded _ _ h)
  | swc1 | sdc1 | swc2 | sdc2 => exact K.needsCop h (K.storeValue _ _ _ h)
  -- coprocessor moves
  | mfc0 | mfc1 | cfc1 | mfc2 | cfc2 => exact K.needsCop h (K.done (K.writeGprLate _ _ h))
  | dmfc0 | dmfc1 | dmfc2 => exact K.needsCop h (K.needs64 h (K.done (K.writeGprLate _ _ h)))
  | mtc0 => exact K.needsCop h (K.movedToCp0 _ _ _ h)
  | dmtc0 => exact K.needsCop h (K.needs64 h (K.movedToCp0 _ _ _ h))
  | cfc0 | ctc0 => exact K.needsCop h (K.except _ h)
  | mtc1 => exact K.needsCop h (K.done (K.noteFgr _ _ (K.setFpr32 _ _ h)))
  | dmtc1 => exact K.needsCop h (K.needs64 h (K.done (K.noteFgr _ _ (K.setFpr64 _ _ h))))
  | ctc1 => exact K.ctc1 _ _ h
  | mtc2 | ctc2 | cop2 => exact K.needsCop h (K.done h)
  | dmtc2 => exact K.needsCop h (K.needs64 h (K.done h))
  -- system control
  | tlbr => exact K.tlbr h
  | tlbp => exact K.tlbp h
  | tlbwi | tlbwr => exact K.needsCop h (K.done (K.tlbWrite _ h))
  | eret => exact K.execEret h
  | wait => exact K.needsCop h (K.done (K.frame h rfl))
  -- floating point
  | addFmt | subFmt | mulFmt | divFmt => exact K.fpArith2 _ _ _ _ _ h
  | sqrtFmt | absFmt | negFmt =>
    unfold Machine.exec
    exact K.fpArith1 _ _ _ _ h
  | movFmt => exact K.movFmt _ _ _ h
  | roundLFmt | truncLFmt | ceilLFmt | floorLFmt | roundWFmt | truncWFmt | ceilWFmt | floorWFmt | cvtWFmt
  | cvtLFmt => exact K.fpToFixed _ _ _ _ _ h
  | cvtSFmt | cvtDFmt => exact K.fpToFloat _ _ _ _ _ _ h
  | cCondFmt => exact K.cCondFmt _ _ _ _ h

/-! ### Around an instruction -/

theorem countTicks (k : Nat) (h : P s) : P (s.countTicks k) := by
  induction k generalizing s with
  | zero => exact h
  | succ k ih => exact ih (K.frame (K.counted (s.cp0.count + 1) h) rfl)

theorem tick (h : P s) : P s.tick := K.frame (K.countTicks _ h) rfl

theorem endStep {r : Result} (h : Leaves P r) : Leaves P (Machine.endStep r) := by
  cases r with
  | next u => exact K.tick h
  | fault => trivial
  | refused => trivial

theorem latchInput (h : P s) : P s.latchInput := K.frame h rfl

theorem extDone (h : P s) : P s.extDone := K.frame h rfl

theorem extCommand (addr : PAddr) (cycles : List DataCycle) (c : Option AgentCommand) (h : P s) :
    ResLeaves P (s.extCommand addr cycles c) := by
  unfold State.extCommand
  split
  · split
    · split
      · refine K.extDone ?_
        split
        · exact K.frame h rfl
        · exact h
      · trivial
    · trivial
  · exact K.extDone (K.frame h rfl)
  · exact K.extDone h
  · trivial

theorem extRequest (r : ExtRequest) (h : P s) : ResLeaves P (s.extRequest r) := by
  cases r with
  | command cmd addr cycles => exact K.extCommand _ _ _ h
  | response cycles =>
    unfold State.extRequest
    dsimp only
    split
    · split
      · exact K.frame h rfl
      · trivial
    · trivial
  | dma addr v => exact K.wroteByte _ _ h

theorem extRequests (l : List ExtRequest) (h : P s) : ResLeaves P (State.extRequests l s) := by
  induction l generalizing s with
  | nil => exact h
  | cons r l ih => exact (K.extRequest r h).bind fun _ _ _ hu => ih hu

theorem startInstr (h : P s) : P s.startInstr := K.frame h rfl

/-- Only the word a data read waits with is filled in. -/
theorem holdWord (w : Word) {r : Result} (h : Leaves P r) : Leaves P (Machine.holdWord w r) := by
  cases r with
  | next u =>
    refine K.busWait _ (fun hu => ?_) h
    intro b hb p hp
    obtain ⟨b', hb', rfl⟩ := Option.map_eq_some_iff.mp hb
    exact hu b' hb' p hp
  | fault => trivial
  | refused => trivial

theorem runDecoded (d : Decoded) (h : P s) : Leaves P (s.runDecoded Machine.exec d) := by
  cases d with
  | instr i => exact K.exec i h
  | unused i =>
    unfold State.runDecoded
    dsimp only
    split
    · exact K.exec i h
    · trivial
  | reserved => exact K.except _ h
  | copReserved z => exact K.needsCop h (K.except _ h)
  | fpReserved fmt => exact K.fpReserved _ h

theorem runWord (w : Word) (h : P s) : Leaves P (s.runWord Machine.exec w) := K.holdWord _ (K.runDecoded _ h)

theorem runNext (h : P s) : Leaves P (s.runNext Machine.exec) :=
  (K.fetch h).finish fun _ _ _ hu => K.runWord _ hu

theorem runOrInterrupt (h : P s) : Leaves P (s.runOrInterrupt Machine.exec) := by
  unfold State.runOrInterrupt
  dsimp only
  split
  · exact K.raise _ h
  · exact K.runNext h

theorem killFetches {run : Instr → State → Result} (hs : P s) (ht : P t) : P (s.killFetches t run) :=
  List.foldlRecOn _ _ ht fun _ hu x _ => K.killedFetch x.1 x.2 hs hu

theorem afterRun {run : Instr → State → Result} {r : Result} (hs : P s) (hr : Leaves P r) :
    Leaves P (s.afterRun run r) := by
  cases r with
  | next u => exact K.killFetches hs hr
  | fault => trivial
  | refused => trivial

theorem boundary (busy : Bool) (h : P s) : Leaves P (s.boundary busy Machine.exec) := by
  unfold State.boundary
  split
  · dsimp only
    split
    · exact h
    · exact K.afterRun (K.startInstr h) (K.runOrInterrupt (K.startInstr h))
  · exact (K.drainOne h).finish fun _ _ _ hu =>
      K.afterRun (K.startInstr hu) (K.runOrInterrupt (K.startInstr hu))

theorem resume (w : BusWait) (busy : Bool) (h : P s) : Leaves P (s.resume w busy Machine.exec) := by
  have h1 : P { s with busWait := none, free := w.free } :=
    K.frame (K.busWait none (fun _ b hb => by cases hb) h) rfl
  have h2 : P { s with busWait := none, free := w.free, busReply := none } := K.frame h1 rfl
  unfold State.resume
  dsimp only
  generalize { s with busWait := none, free := w.free } = s1 at h1 ⊢
  generalize { s with busWait := none, free := w.free, busReply := none } = s2 at h2 ⊢
  have hr : Leaves P (if w.fetch then s1.runOrInterrupt Machine.exec else s1.runWord Machine.exec w.word) := by
    split
    · exact K.runOrInterrupt h1
    · exact K.runWord _ h1
  have hu : P (if w.fetch then s1 else s2) := by
    split
    · exact h1
    · exact h2
  generalize (if w.fetch then s1.runOrInterrupt Machine.exec else s1.runWord Machine.exec w.word) = r at hr ⊢
  generalize (if w.fetch then s1 else s2) = u at hu ⊢
  split
  · exact h
  · have ha := K.afterRun (run := Machine.exec) hu hr
    split
    · rename_i v hv
      exact K.frame (leaves_next ha hv) rfl
    · trivial
    · trivial

theorem proceed (i : Input) (h : P s) : Leaves P (s.proceed i Machine.exec) := by
  unfold State.proceed
  split
  · split
    · exact h
    · exact K.resume _ _ h
  · split
    · exact K.softEntry h
    · split
      · exact h
      · exact K.boundary _ (K.frame h rfl)

/-- Every step keeps a predicate that the model's operations keep. -/
theorem step (h : P s) : Leaves P (Machine.step s) := by
  have hl := K.latchInput h
  refine K.endStep ?_
  split
  · exact K.coldReset _ hl
  · exact K.softReset hl
  · exact (K.extRequests _ hl).finish fun _ _ _ hu => K.proceed _ hu

end KeptByOps

end
end Sys2Proof.Proofs

/-! ## Proofs: the fields that read as zero stay zero (O9), and what holds after Reset (O6, O7) -/

namespace Sys2Proof.Proofs
open Sys2Proof.Machine

/-! ### Registers built from fields -/

theorem putBadVpn2_low (context : DWord) (vpn : BitVec 19) : putBadVpn2 context vpn &&& 0xF#64 = 0 :=
  or_reserved (and_mask_reserved _ (by decide)) (field_reserved vpn 4 (by decide))

theorem putXBadVpn2_low (xContext : DWord) (r : BitVec 2) (vpn : BitVec 27) :
    putXBadVpn2 xContext r vpn &&& 0xF#64 = 0 :=
  or_reserved (or_reserved (and_mask_reserved _ (by decide)) (field_reserved r 31 (by decide)))
    (field_reserved vpn 4 (by decide))

theorem putVpn2_reserved (entryHi : DWord) (r : BitVec 2) (vpn : BitVec 27) :
    putVpn2 entryHi r vpn &&& ~~~ entryHiMask = 0 :=
  or_reserved (or_reserved (and_mask_reserved _ (by decide)) (field_reserved r 62 (by decide)))
    (field_reserved vpn 13 (by decide))

theorem entryHiOf_reserved (e : TlbEntry) : entryHiOf e &&& ~~~ entryHiMask = 0 :=
  or_reserved (or_reserved (field_reserved e.r 62 (by decide)) (field_reserved (e.vpn2 &&& ~~~ _) 13 (by decide)))
    (zext_reserved e.asid (by decide))

theorem pageMaskOf_reserved (e : TlbEntry) : pageMaskOf e &&& ~~~ pageMaskMask = 0 :=
  field_reserved e.mask 13 (by decide)

theorem loOfHalf_reserved (x : TlbHalf) (g : Bool) : loOfHalf x g &&& ~~~ entryLoMask = 0 :=
  zext_reserved _ (by decide)

theorem tlbEntryOf_masked (pageMask : Word) (entryHi lo0 lo1 : DWord) :
    (tlbEntryOf pageMask entryHi lo0 lo1).vpn2 &&& (tlbEntryOf pageMask entryHi lo0 lo1).mask.setWidth 27 = 0 :=
  and_not_and _ _

theorem tlbImage_masked (s : State) : s.tlbImage.vpn2 &&& s.tlbImage.mask.setWidth 27 = 0 := by
  unfold State.tlbImage
  exact tlbEntryOf_masked _ _ _ _

theorem anyEntry_masked (s : State) (k : Nat) : (s.anyEntry k).vpn2 &&& (s.anyEntry k).mask.setWidth 27 = 0 := by
  unfold State.anyEntry
  exact tlbEntryOf_masked _ _ _ _

/-- Cause as an exception leaves it: IP7 to IP2 are not stored, and the other reserved bits are written zero. -/
theorem raised_cause_reserved {old : Word} (h : old &&& ~~~ causeStored = 0) (bd : BitVec 1) (unit : BitVec 2)
    (code : BitVec 5) :
    (bd ++ (0 : BitVec 1) ++ unit ++ (0 : BitVec 12) ++ old.extractLsb' 8 8 ++ (0 : BitVec 1) ++ code
      ++ (0 : BitVec 2)) &&& ~~~ causeStored = 0 := by
  have hip : old.extractLsb' 8 8 &&& 0xFC#8 = 0 := by
    have := congrArg (BitVec.extractLsb' 8 8) h
    rwa [BitVec.extractLsb'_and] at this
  have hm : ~~~ causeStored = (0#1 ++ 1#1 ++ 0#2 ++ 0xFFF#12 ++ 0xFC#8 ++ 1#1 ++ 0#5 ++ 3#2 : BitVec 32) := by decide
  rw [hm, BitVec.and_append]
  simp only [BitVec.and_append, hip]
  simp

/-- An entry that TLBP finds is one of the 48. -/
theorem tlbProbe_lt {s : State} {i : Nat} (h : i ∈ s.tlbProbe) : i < 48 := by
  unfold State.tlbProbe at h
  obtain ⟨p, hp, rfl⟩ := List.mem_map.mp h
  obtain ⟨j, hj, rfl⟩ := List.mem_mapIdx.mp (List.mem_filter.mp hp).1
  simpa using hj

theorem probeIndex_reserved (s : State) : s.probeIndex &&& ~~~ indexMask = 0 := by
  have small : ∀ i < 48, BitVec.ofNat 32 i &&& ~~~ indexMask = 0 := by decide
  unfold State.probeIndex
  split
  · decide
  · rename_i i hi
    exact small i (tlbProbe_lt (by rw [hi]; exact List.mem_singleton.mpr rfl))
  · exact and_mask_reserved _ (by decide)

/-! ### The invariant of the fields -/

/-- The part of the state `State.FieldsOk` speaks of. -/
def registers (s : State) := (s.gpr, s.cp0, s.tlb, s.fcr31, s.cfg)

section
variable {s t : State}

theorem fieldsOk_of_registers (h : s.FieldsOk) (e : registers t = registers s) : t.FieldsOk := by
  obtain ⟨⟩ := s
  obtain ⟨⟩ := t
  simp only [registers, Prod.mk.injEq] at e
  obtain ⟨rfl, rfl, rfl, rfl, rfl⟩ := e
  exact { h with }

theorem registers_of_tracked (e : tracked t = tracked s) : registers t = registers s := by
  simp only [tracked, Prod.mk.injEq] at e
  obtain ⟨hg, hc, ht, hf, -, -, -, -, -, hp⟩ := e
  simp only [registers, hg, hc, ht, hf, hp]

theorem writeGpr_fieldsOk (r : Reg) (v : DWord) (h : s.FieldsOk) : (s.writeGpr r v).FieldsOk := by
  unfold State.writeGpr
  split
  · exact h
  · rename_i hr
    have hn : r.toNat ≠ 0 := fun e => hr (BitVec.eq_of_toNat_eq e)
    exact { h with r0 := by simpa [hn] using h.r0 }

theorem cp0Set_fieldsOk (r : Reg) (v : DWord) (h : s.FieldsOk) : (s.cp0Set r v).FieldsOk := by
  unfold State.cp0Set
  dsimp only
  split
  · exact { h with index := and_mask_reserved _ (by decide) }
  · exact { h with entryLo0 := and_mask_reserved _ (by decide) }
  · exact { h with entryLo1 := and_mask_reserved _ (by decide) }
  · exact { h with context := mergeMask_reserved _ (by decide) h.context }
  · exact { h with pageMask := and_mask_reserved _ (by decide) }
  · exact { h with wired := and_mask_reserved _ (by decide) }
  · exact { h with }
  · exact { h with entryHi := and_mask_reserved _ (by decide) }
  · exact { h with }
  · exact { h with status := and_mask_reserved _ (by decide) }
  · exact { h with cause := mergeMask_reserved _ (by decide) h.cause }
  · exact { h with }
  · exact { h with config := (mergeMask_outside _ _ _).trans h.config }
  · exact { h with }
  · exact { h with xContext := mergeMask_reserved _ (by decide) h.xContext }
  · exact { h with ecc := and_mask_reserved _ (by decide) }
  · exact { h with }
  · exact { h with }
  · exact { h with }
  · exact h

theorem tlbRead_fieldsOk (h : s.FieldsOk) : s.tlbRead.FieldsOk := by
  unfold State.tlbRead
  dsimp only
  cases decide (47 < ((s.cp0Read 0).setWidth 6).toNat)
  · exact { h with
      pageMask := pageMaskOf_reserved _
      entryHi := entryHiOf_reserved _
      entryLo0 := loOfHalf_reserved _ _
      entryLo1 := loOfHalf_reserved _ _ }
  · exact { h with
      pageMask := and_mask_reserved _ (by decide)
      entryHi := and_mask_reserved _ (by decide)
      entryLo0 := and_mask_reserved _ (by decide)
      entryLo1 := and_mask_reserved _ (by decide) }

theorem putTlb_fieldsOk {v : Vector TlbEntry 48} (h : s.FieldsOk)
    (hv : ∀ e ∈ v, e.vpn2 &&& e.mask.setWidth 27 = 0) : State.FieldsOk { s with tlb := v } := { h with tlb := hv }

theorem tlbWrite_fieldsOk (i : BitVec 6) (h : s.FieldsOk) : (s.tlbWrite i).FieldsOk := by
  unfold State.tlbWrite
  split
  · rename_i hi
    refine fieldsOk_of_registers (putTlb_fieldsOk (v := s.tlb.set i.toNat s.tlbImage hi) h fun e he => ?_) rfl
    rcases Vector.mem_or_eq_of_mem_set he with hmem | rfl
    · exact h.tlb e hmem
    · exact tlbImage_masked s
  · refine putTlb_fieldsOk h fun e he => ?_
    obtain ⟨k, rfl⟩ := Vector.mem_ofFn.mp he
    exact anyEntry_masked s k

theorem faultRegs_fieldsOk (va a b c : DWord) (h : s.FieldsOk) : (s.faultRegs va a b c).FieldsOk :=
  { h with
    context := putBadVpn2_low _ _
    xContext := putXBadVpn2_low _ _ _
    entryHi := putVpn2_reserved _ _ _
    entryLo0 := and_mask_reserved _ (by decide)
    entryLo1 := and_mask_reserved _ (by decide) }

theorem excRegs_fieldsOk (e : Exc) (h : s.FieldsOk) : (s.excRegs e).FieldsOk := by
  unfold State.excRegs
  split
  · exact faultRegs_fieldsOk _ _ _ _ h
  · exact faultRegs_fieldsOk _ _ _ _ h
  · exact faultRegs_fieldsOk _ _ _ _ h
  · exact faultRegs_fieldsOk _ _ _ _ h
  · exact h

theorem raise_fieldsOk (e : Exc) (h : s.FieldsOk) : (s.raise e).FieldsOk := by
  have hx := excRegs_fieldsOk e h
  exact { hx with
    cause := raised_cause_reserved hx.cause _ _ _
    status := or_reserved hx.status (by decide) }

theorem killedFetch_fieldsOk (u : State) (k : Nat) (hs : s.FieldsOk) (ht : t.FieldsOk) :
    (s.killedFetch t u k).FieldsOk := by
  unfold State.killedFetch
  split
  · exact ht
  · rename_i e _
    have hx := excRegs_fieldsOk e hs
    dsimp only
    cases t.pick (.killedFetch k)
    · exact { ht with }
    · exact { ht with context := hx.context, xContext := hx.xContext, entryHi := hx.entryHi }

theorem eret_fieldsOk (h : s.FieldsOk) : s.eret.FieldsOk := by
  unfold State.eret
  dsimp only
  split
  · exact { h with status := and_reserved _ h.status }
  · exact { h with status := and_reserved _ h.status }

theorem softEntry_fieldsOk (h : s.FieldsOk) : s.softEntry.FieldsOk :=
  { h with status := or_reserved (and_reserved _ h.status) (by decide) }

theorem softReset_fieldsOk (h : s.FieldsOk) : s.softReset.FieldsOk := by
  obtain ⟨d, c, e⟩ := abortLines_rest s
  have ha : s.abortLines.FieldsOk := fieldsOk_of_registers h (by rw [e]; rfl)
  exact fieldsOk_of_registers (softEntry_fieldsOk ha) rfl

theorem reset_fieldsOk : State.reset.FieldsOk where
  index := by decide
  entryLo0 := by decide
  entryLo1 := by decide
  context := by decide
  xContext := by decide
  pageMask := by decide
  wired := by decide
  entryHi := by decide
  status := by decide
  cause := by decide
  ecc := by decide
  config := by decide
  fcr31 := by decide
  tlb := fun e he => by rw [(Vector.mem_replicate.mp he).2]; decide
  r0 := by decide

theorem coldReset_fieldsOk (st : BitVec 256) : Leaves State.FieldsOk (s.coldReset st) := by
  unfold State.coldReset
  split
  · exact { reset_fieldsOk with config := rfl }
  · trivial

theorem sendWrite_fieldsOk (e : WEntry) (h : s.FieldsOk) : ResLeaves State.FieldsOk (s.sendWrite e) := by
  unfold State.sendWrite
  dsimp only
  split
  · trivial
  · split <;> exact fieldsOk_of_registers h rfl

theorem pushWrite_fieldsOk (pa : PAddr) (n : Nat) (d : DWord) (h : s.FieldsOk) :
    ResLeaves State.FieldsOk (s.pushWrite pa n d) := by
  refine ResLeaves.bind ?_ fun _ u _ hu => fieldsOk_of_registers hu rfl
  split
  · unfold State.drainHead
    split
    · exact h
    · exact sendWrite_fieldsOk _ (fieldsOk_of_registers h rfl)
  · exact h

/-- Every operation of the model keeps the fields legal. -/
theorem fieldsOk_kept : KeptByOps State.FieldsOk where
  frame h e := fieldsOk_of_registers h (registers_of_tracked e)
  writeGpr := writeGpr_fieldsOk
  cp0Set := cp0Set_fieldsOk
  stepRandom h := { h with }
  setCH hit h := { h with status := putBit_reserved hit (by decide) h.status }
  linkAddr _ h := { h with }
  loadedTag _ ecc h := { h with ecc := zext_reserved ecc (by decide) }
  counted _ h := { h with }
  fcr31 f hf h := { h with fcr31 := hf h.fcr31 }
  probed h := { h with index := probeIndex_reserved _ }
  tlbRead := tlbRead_fieldsOk
  tlbWrite := tlbWrite_fieldsOk
  raise := raise_fieldsOk
  raiseCacheError _ h := { h with status := or_reserved h.status (by decide) }
  killedFetch := killedFetch_fieldsOk
  eret := eret_fieldsOk
  softEntry := softEntry_fieldsOk
  softReset := softReset_fieldsOk
  coldReset st _ := coldReset_fieldsOk st
  issue _ h := fieldsOk_of_registers h rfl
  applied _ h := fieldsOk_of_registers h rfl
  wroteByte _ _ h := fieldsOk_of_registers h rfl
  emptied h := fieldsOk_of_registers h rfl
  headLeft _ h := fieldsOk_of_registers h rfl
  pushWrite := pushWrite_fieldsOk
  lineQueued _ _ _ _ _ _ h := fieldsOk_of_registers h rfl
  putDline _ _ h := fieldsOk_of_registers h rfl
  putIline _ _ h := fieldsOk_of_registers h rfl
  busWait _ _ h := fieldsOk_of_registers h rfl

end

/-- Settles O9: each operation of the model keeps the fields legal, so every step does. -/
theorem stepKeepsFields : Obligations.StepKeepsFields := by
  intro s t h hst
  exact leaves_next (fieldsOk_kept.step h) hst

/-- Settles O6: `State.reset` is a literal, so each of its values is evaluated. -/
theorem resetValues : Obligations.ResetValues := by
  unfold Obligations.ResetValues
  and_intros <;> decide

/-- Settles O7: memory, the caches and the write buffer are empty, and the fields are as `reset_fieldsOk` says. -/
theorem resetWellFormed : Obligations.ResetWellFormed := by
  have hbuf : State.reset.wbuf = [] := rfl
  refine ⟨?_, reset_fieldsOk, ?_, ?_⟩
  · have hd : State.reset.dcache = [] := rfl
    have hi : State.reset.icache = [] := rfl
    have hw : State.reset.busWait = none := rfl
    refine ⟨reset_memory_wf, rfl, rfl, ?_, ?_, ?_, ?_⟩
    · simp [hd]
    · simp [hi]
    · simp [hw]
    · simp [hbuf]
  · intro _; decide
  · refine ⟨by decide, ?_⟩
    simp [hbuf]

end Sys2Proof.Proofs

/-! ## Proofs: what MFC0 and DMFC0 read (O35) -/

namespace Sys2Proof.Proofs
open Sys2Proof.Machine

/-! ### Reading CP0 registers -/

/-- Zero extension to 64 bits keeps the number. -/
theorem toNat_zext64 {n : Nat} (hn : n ≤ 64) (v : BitVec n) : (zext64 v).toNat = v.toNat :=
  BitVec.toNat_setWidth_of_le hn

/-- The low word of a doubleword, sign-extended, is the doubleword's number reduced to 32 signed bits. -/
theorem sext64_low32 (v : DWord) : sext64 (low32 v) = BitVec.ofInt 64 (v.toInt.bmod (2 ^ 32)) := by
  have h : v.toInt.bmod (2 ^ 32) = (low32 v).toInt := by
    rw [low32, BitVec.toInt_setWidth, BitVec.toInt_eq_toNat_bmod]
    exact Int.bmod_bmod_of_dvd (by decide)
  rw [h]
  rfl

theorem toNat_prId (s : State) : s.prId.toNat = 0x2100 + s.cfg.pridRev.toNat := by
  have hr := s.cfg.pridRev.isLt
  have he : s.prId.toNat = 0x21 <<< 8 ||| s.cfg.pridRev.toNat := by
    simp only [State.prId, BitVec.toNat_or, BitVec.toNat_setWidth]
    rw [Nat.mod_eq_of_lt (by omega)]
    rfl
  rw [he, ← Nat.shiftLeft_add_eq_or_of_lt hr]
  rfl

/-- MFC0 and DMFC0: an instruction that ends by a late write of a general register. -/
theorem completes_writeGprLate {s : State} {i : Instr} {rt : Reg} {v : DWord}
    (h : exec i s = (s.writeGprLate rt v).done) : s.completes i (s.WroteLate · rt v) := by
  obtain ⟨t, ht, hw⟩ := writeGprLate_wrote s rt v
  exact ⟨t, h.trans ht, hw⟩

theorem exec_mfc0 {s : State} (hc : s.copUsable 0 = true) (rt rd : Reg) :
    exec (.mfc0 rt rd) s = (s.writeGprLate rt (sext64 (low32 (s.cp0Read rd)))).done := needsCop_usable hc _

theorem exec_dmfc0 {s : State} (hc : s.copUsable 0 = true) (h64 : s.ops64Enabled = true) (rt rd : Reg) :
    exec (.dmfc0 rt rd) s = (s.writeGprLate rt
      (if cp0Wide rd || cp0Reserved rd then s.cp0Read rd else s.freeWord .dmfc0Narrow)).done :=
  (needsCop_usable hc _).trans (needs64_enabled h64 _)

/-- Settles O35: both instructions end in a late write of the register as `State.cp0Read` gives it, and with no late
write outstanding that is the register held. -/
theorem cp0Read : Obligations.Cp0Read := by
  intro s rt hc
  refine ⟨fun rd => ?_, fun h64 => ⟨fun rd hrd => ?_, fun rd => ?_⟩, fun hh => ?_⟩
  · rw [← sext64_low32]
    exact completes_writeGprLate (exec_mfc0 hc rt rd)
  · have wide : ∀ r ∈ ([2, 3, 4, 8, 10, 14, 20, 30] : List Reg), cp0Wide r = true := by decide
    have h := exec_dmfc0 hc h64 rt rd
    rw [wide rd hrd] at h
    exact completes_writeGprLate h
  · obtain ⟨t, ht, hw⟩ := completes_writeGprLate (exec_dmfc0 hc h64 rt rd)
    exact ⟨t, ht, _, hw⟩
  · simp only [cp0Read_calm hh, State.cp0Get, List.forall_mem_cons]
    simp [toNat_zext64, toNat_prId]

end Sys2Proof.Proofs

/-! ## Proofs: what a write of a CP0 register does (O36), and that Random stays in range (O10) -/

namespace Sys2Proof.Proofs
open Sys2Proof.Machine

/-! ### Writing CP0 registers -/

/-- Every effect of a write of CP0 register `r`, field by field (11_cp0_registers R80, R87, R119, R120); the fields not
named here are as before. -/
theorem cp0Set_eq (s : State) (r : Reg) (v : DWord) : s.cp0Set r v = { s with
    timerInt :=
      if r = 11 then false else if r = 9 then s.timerInt || low32 v == s.cp0.compare else s.timerInt
    cp0 := { s.cp0 with
      index := if r = 0 then low32 v &&& indexMask else s.cp0.index
      entryLo0 := if r = 2 then v &&& entryLoMask else s.cp0.entryLo0
      entryLo1 := if r = 3 then v &&& entryLoMask else s.cp0.entryLo1
      context := if r = 4 then mergeMask contextMask s.cp0.context v else s.cp0.context
      pageMask := if r = 5 then low32 v &&& pageMaskMask else s.cp0.pageMask
      wired := if r = 6 then low32 v &&& wiredMask else s.cp0.wired
      random := if r = 6 then 47 else s.cp0.random
      count := if r = 9 then low32 v else s.cp0.count
      entryHi := if r = 10 then v &&& entryHiMask else s.cp0.entryHi
      compare := if r = 11 then low32 v else s.cp0.compare
      status := if r = 12 then low32 v &&& statusMask else s.cp0.status
      cause := if r = 13 then mergeMask causeMask s.cp0.cause (low32 v) else s.cp0.cause
      epc := if r = 14 then v else s.cp0.epc
      config := if r = 16 then mergeMask configMask s.cp0.config (low32 v) else s.cp0.config
      llAddr := if r = 17 then low32 v else s.cp0.llAddr
      xContext := if r = 20 then mergeMask xContextMask s.cp0.xContext v else s.cp0.xContext
      ecc := if r = 26 then low32 v &&& eccMask else s.cp0.ecc
      tagLo := if r = 28 then low32 v else s.cp0.tagLo
      tagHi := if r = 29 then low32 v else s.cp0.tagHi
      errorEpc := if r = 30 then v else s.cp0.errorEpc } } := by
  obtain ⟨⟨k, hk⟩⟩ := r
  have hk : k < 32 := hk
  interval_cases k <;> rfl

/-- Every register but the one written, Random and, where the timer latch changed, Cause reads as before: each of the
32 numbers reads one field, and `cp0Set_eq` gives it. -/
theorem keepsCp0_cp0Set (s : State) (r : Reg) (v : DWord) : s.keepsCp0 (s.cp0Set r v) [r] := by
  intro q hq _ hcause
  have hne : r ≠ q := fun e => hq (List.mem_singleton.mpr e.symm)
  rw [cp0Set_eq] at hcause ⊢
  clear hq
  obtain ⟨⟨k, hk⟩⟩ := q
  have hk : k < 32 := hk
  interval_cases k <;>
    simp_all [State.cp0Get, State.cause, State.causeLines, State.pendingLines, State.prId, State.freeWord]

/-! ### Every step keeps Random in range (O10) -/

section
variable {s t : State}

/-- The invariant speaks of Random and Wired alone. -/
theorem randomOk_of_eq (h : s.randomOk) (hr : t.cp0.random = s.cp0.random) (hw : t.cp0.wired = s.cp0.wired) :
    t.randomOk := by
  unfold State.randomOk
  rw [hr, hw]
  exact h

/-- A write of Wired puts Random at 47, the top of the range; every other write leaves both (11_cp0_registers R80). -/
theorem cp0Set_randomOk (r : Reg) (v : DWord) (h : s.randomOk) : (s.cp0Set r v).randomOk := by
  by_cases hr : r = 6
  · subst hr
    exact fun hw => ⟨hw, Nat.le_refl 47⟩
  · apply randomOk_of_eq h <;> rw [cp0Set_eq] <;> exact if_neg hr

/-- Random steps down until it is Wired and then starts at 47 again (11_cp0_registers R74). -/
theorem stepRandom_randomOk (h : s.randomOk) : s.stepRandom.randomOk := by
  intro hw
  have hw : s.cp0.wired.toNat ≤ 47 := hw
  obtain ⟨hlow, hhigh⟩ := h hw
  show s.cp0.wired.toNat ≤ _ ∧ _
  rw [stepRandom_steps s s.stepRandom rfl hw]
  split
  · exact ⟨hw, Nat.le_refl 47⟩
  · have hpred : (s.cp0.random - 1).toNat = s.cp0.random.toNat - 1 := by bv_omega
    omega

theorem excRegs_random_wired (s : State) (e : Exc) :
    (s.excRegs e).cp0.random = s.cp0.random ∧ (s.excRegs e).cp0.wired = s.cp0.wired := by
  cases e <;> exact ⟨rfl, rfl⟩

theorem raise_randomOk (e : Exc) (h : s.randomOk) : (s.raise e).randomOk :=
  randomOk_of_eq h (excRegs_random_wired s e).1 (excRegs_random_wired s e).2

theorem killedFetch_randomOk (u : State) (k : Nat) (h : t.randomOk) : (s.killedFetch t u k).randomOk := by
  rw [killedFetch_rest]
  exact h

theorem tlbWrite_cp0 (s : State) (i : BitVec 6) : (s.tlbWrite i).cp0 = s.cp0 := by
  unfold State.tlbWrite
  split <;> rfl

theorem eret_randomOk (h : s.randomOk) : s.eret.randomOk := by
  unfold State.eret
  dsimp only
  split <;> exact h

theorem softReset_randomOk (h : s.randomOk) : s.softReset.randomOk := by
  obtain ⟨d, c, e⟩ := abortLines_rest s
  unfold State.softReset
  rw [e]
  exact h

/-- Reset leaves Wired 0 and Random 47 (11_cp0_registers R74, R80). -/
theorem coldReset_randomOk (st : BitVec 256) : Leaves State.randomOk (s.coldReset st) := by
  unfold State.coldReset
  split
  · exact fun _ => ⟨Nat.zero_le 47, Nat.le_refl 47⟩
  · trivial

theorem sendWrite_randomOk (e : WEntry) (h : s.randomOk) : ResLeaves State.randomOk (s.sendWrite e) := by
  unfold State.sendWrite
  dsimp only
  split
  · trivial
  · split <;> exact h

theorem pushWrite_randomOk (pa : PAddr) (n : Nat) (d : DWord) (h : s.randomOk) :
    ResLeaves State.randomOk (s.pushWrite pa n d) := by
  refine ResLeaves.bind ?_ fun _ _ _ hu => hu
  split
  · unfold State.drainHead
    split
    · exact h
    · exact sendWrite_randomOk _ h
  · exact h

/-- Every operation of the model keeps Random in range. -/
theorem randomOk_kept : KeptByOps State.randomOk where
  frame {s t} h e := by
    have hc : t.cp0 = s.cp0 := congrArg (·.2.1) e
    exact randomOk_of_eq h (congrArg Cp0.random hc) (congrArg Cp0.wired hc)
  writeGpr r v h := by rw [writeGpr_rest]; exact h
  cp0Set := cp0Set_randomOk
  stepRandom := stepRandom_randomOk
  setCH _ h := h
  linkAddr _ h := h
  loadedTag _ _ h := h
  counted _ h := h
  fcr31 _ _ h := h
  probed h := h
  tlbRead h := h
  tlbWrite i h := randomOk_of_eq h (by rw [tlbWrite_cp0]) (by rw [tlbWrite_cp0])
  raise := raise_randomOk
  raiseCacheError _ h := h
  killedFetch u k _ ht := killedFetch_randomOk u k ht
  eret := eret_randomOk
  softEntry h := h
  softReset := softReset_randomOk
  coldReset st _ := coldReset_randomOk st
  issue _ h := h
  applied _ h := h
  wroteByte _ _ h := h
  emptied h := h
  headLeft _ h := h
  pushWrite := pushWrite_randomOk
  lineQueued _ _ _ _ _ _ h := h
  putDline _ _ h := h
  putIline _ _ h := h
  busWait _ _ h := h

end

/-- Settles O10: each operation of the model keeps Random in range, so every step does. -/
theorem stepKeepsRandom : Obligations.StepKeepsRandom := by
  intro s t h hst
  exact leaves_next (randomOk_kept.step h) hst

/-! ### MTC0 and DMTC0 (O36) -/

/-- The state an MTC0 or DMTC0 leaves that writes `v` to CP0 register `rd`. -/
def cp0Moved (s : State) (rd : Reg) (v : DWord) : State := (s.retire.cp0Set rd v).noteCp0 s rd

theorem exec_mtc0 {s : State} (hc : s.copUsable 0 = true) (rt rd : Reg) :
    exec (.mtc0 rt rd) s = .next (cp0Moved s rd (s.readGpr rt)) := needsCop_usable hc _

theorem exec_dmtc0 {s : State} (hc : s.copUsable 0 = true) (h64 : s.ops64Enabled = true) (rt rd : Reg) :
    exec (.dmtc0 rt rd) s =
      .next (cp0Moved s rd (if cp0Wide rd then s.readGpr rt else s.freeWord .dmtc0Narrow)) :=
  (needsCop_usable hc _).trans (needs64_enabled h64 _)

/-- The late writes a move leaves are all that its hazards change. -/
theorem noteCp0_rest (s old : State) (r : Reg) : s.noteCp0 old r = { s with hist := (s.noteCp0 old r).hist } := by
  unfold State.noteCp0
  split_ifs <;> rfl

/-- A move to a CP0 register changes CP0 and the timer latch as `State.cp0Set` says, and control goes on. -/
theorem cp0Moved_rest (s : State) (rd : Reg) (v : DWord) :
    cp0Moved s rd v = { s with
      cp0 := (s.retire.cp0Set rd v).cp0, timerInt := (s.retire.cp0Set rd v).timerInt
      pc := s.nextPc, pending := none, hist := (cp0Moved s rd v).hist } := by
  rw [cp0Moved, noteCp0_rest, cp0Set_eq, retire_rest]

theorem cp0Moved_cp0Get (s : State) (rd q : Reg) (v : DWord) :
    (cp0Moved s rd v).cp0Get q = (s.retire.cp0Set rd v).cp0Get q := by
  rw [cp0Moved, noteCp0_rest]; rfl

/-- Completing an instruction leaves every CP0 register but Random. -/
theorem retire_cp0Get (s : State) {q : Reg} (hq : q ≠ 1) : s.retire.cp0Get q = s.cp0Get q := by
  rw [retire_rest]
  unfold State.cp0Get
  split
  case h_2 h => exact absurd (BitVec.eq_of_toNat_eq h) hq
  all_goals rfl

/-- What MTC0 and DMTC0 do, for the value `new` that the register takes. That a Count equal to Compare sets the timer
latch is the model's choice (D38). -/
theorem cp0Moved_wrote (s : State) {rd : Reg} {v new : DWord} (hrd : rd ≠ 1)
    (hv : (s.retire.cp0Set rd v).cp0Get rd = new) : s.WroteCp0 (cp0Moved s rd v) rd new where
  value := (cp0Moved_cp0Get ..).trans hv
  others q hq hq1 hcause := by
    have hr : s.retire.timerInt = s.timerInt := by rw [retire_rest]
    rw [cp0Moved_rest] at hcause
    rw [cp0Moved_cp0Get, keepsCp0_cp0Set _ _ _ q hq hq1 fun h => (hcause h).trans hr.symm, retire_cp0Get s hq1]
  frame := ⟨fun a => by rw [cp0Moved_rest], by rw [cp0Moved_rest]⟩
  tlb := by rw [cp0Moved_rest]
  pc := by rw [cp0Moved_rest]
  slot := by rw [cp0Moved_rest]
  random := by
    rw [cp0Moved_rest, cp0Set_eq]
    split
    · rfl
    · exact stepRandom_steps _ _ (by rw [retire_rest])
  timer := by
    rw [cp0Moved_rest, cp0Set_eq, retire_rest]
    by_cases h9 : rd = 9
    · subst h9; rfl
    · simp only [if_neg h9]

/-! ### What the written register holds -/

theorem zext64_and (x y : Word) : zext64 (x &&& y) = zext64 x &&& zext64 y := BitVec.setWidth_and

theorem zext64_or (x y : Word) : zext64 (x ||| y) = zext64 x ||| zext64 y := BitVec.setWidth_or

/-- What lies within the low word of a doubleword is not lost when the doubleword is cut to a word. -/
theorem zext64_low32_and (v : DWord) (m : Word) : zext64 (low32 v &&& m) = v &&& zext64 m := by
  ext i hi
  by_cases h : i < 32
  · simp [zext64, low32, h, hi]
  · simp [zext64, low32, h, BitVec.getLsbD_of_ge m i (not_lt.mp h)]

/-- A 32-bit register of which the bits of `m` are stored, and no others. -/
theorem stored32 (x v : DWord) (m : Word) : zext64 (low32 v &&& m) = (x &&& 0) ||| (v &&& zext64 m) := by
  simp [zext64_low32_and]

/-- A 32-bit register that is stored whole. -/
theorem stored32_whole (x v : DWord) : zext64 (low32 v) = (x &&& 0) ||| (v &&& 0xFFFFFFFF#64) := by
  have h := stored32 x v (BitVec.allOnes 32)
  rwa [BitVec.and_allOnes] at h

/-- A 32-bit register of which the bits of `m` are written and the others stay. -/
theorem merged32 (m old : Word) (v : DWord) :
    zext64 (mergeMask m old (low32 v)) = (zext64 old &&& zext64 (~~~ m)) ||| (v &&& zext64 m) := by
  rw [mergeMask, zext64_or, zext64_and, zext64_low32_and]

/-- A 64-bit register of which the bits of `m` are stored, and no others. -/
theorem stored64 (x v m : DWord) : v &&& m = (x &&& 0) ||| (v &&& m) := by
  simp

/-- A 64-bit register that is stored whole. -/
theorem stored64_whole (x v : DWord) : v = (x &&& 0) ||| (v &&& BitVec.allOnes 64) := by
  rw [← stored64, BitVec.and_allOnes]

/-- IP7 to IP2 are none of the two bits of Cause that are written. -/
theorem causeLines_and_causeMask (s : State) : s.causeLines &&& causeMask = 0 :=
  field_reserved s.pendingLines 10 (by decide)

/-- Bits outside the mask stay, whether they are put in before the merge or after it. -/
theorem mergeMask_or {n : Nat} {m x : BitVec n} (old new : BitVec n) (hx : x &&& m = 0) :
    mergeMask m old new ||| x = mergeMask m (old ||| x) new := by
  have hkept : x &&& ~~~ m = x :=
    calc x &&& ~~~ m = (x &&& m) ||| (x &&& ~~~ m) := by simp [hx]
      _ = x := by rw [← BitVec.and_or_distrib_left, BitVec.or_not_self, BitVec.and_allOnes]
  unfold mergeMask
  rw [BitVec.and_or_distrib_right, hkept, BitVec.or_assoc, BitVec.or_assoc, BitVec.or_comm x]

/-- Cause reads as before but for IP1 and IP0, the live bits included. -/
theorem merged_cause (s : State) (v : DWord) :
    zext64 (mergeMask causeMask s.cp0.cause (low32 v) ||| s.causeLines) =
      (zext64 s.cause &&& zext64 (~~~ causeMask)) ||| (v &&& zext64 causeMask) := by
  rw [mergeMask_or _ _ (causeLines_and_causeMask s), merged32, State.cause]

/-- For each CP0 register that can be written: the bits that stay and the bits that are written. -/
def cp0Bits : List (Reg × DWord × DWord) :=
  [(0, 0, 0x8000003F), (2, 0, 0x3FFFFFFF), (3, 0, 0x3FFFFFFF), (4, 0x7FFFFF, 0xFFFFFFFFFF800000),
    (5, 0, 0x01FFE000), (6, 0, 0x3F), (9, 0, 0xFFFFFFFF), (10, 0, 0xC00000FFFFFFE0FF), (11, 0, 0xFFFFFFFF),
    (12, 0, 0xF657FFFF), (13, 0xFFFFFCFF, 0x300), (14, 0, 0xFFFFFFFFFFFFFFFF), (16, 0xFFFFFFF8, 7),
    (17, 0, 0xFFFFFFFF), (20, 0x1FFFFFFFF, 0xFFFFFFFE00000000), (26, 0, 0xFF), (28, 0, 0xFFFFFFFF),
    (29, 0, 0xFFFFFFFF), (30, 0, 0xFFFFFFFFFFFFFFFF)]

/-- A register reads, after a write, as the table says. -/
theorem cp0Set_written (s : State) (v : DWord) :
    ∀ e ∈ cp0Bits, (s.cp0Set e.1 v).cp0Get e.1 = (s.cp0Get e.1 &&& e.2.1) ||| (v &&& e.2.2) := by
  simp only [cp0Bits, List.forall_mem_cons]
  exact ⟨stored32 _ v indexMask, stored64 _ v entryLoMask, stored64 _ v entryLoMask, rfl,
    stored32 _ v pageMaskMask, stored32 _ v wiredMask, stored32_whole _ v, stored64 _ v entryHiMask,
    stored32_whole _ v, stored32 _ v statusMask, merged_cause s v, stored64_whole _ v, merged32 configMask _ v,
    stored32_whole _ v, rfl, stored32 _ v eccMask, stored32_whole _ v, stored32_whole _ v, stored64_whole _ v,
    List.forall_mem_nil _⟩

/-- Each register that can be written takes the bits its row of the table names, and keeps the others. -/
theorem cp0Moved_wrote_bits (s : State) (v : DWord) {e : Reg × DWord × DWord} (he : e ∈ cp0Bits) :
    s.WroteCp0 (cp0Moved s e.1 v) e.1 ((s.cp0Get e.1 &&& e.2.1) ||| (v &&& e.2.2)) := by
  have hne : ∀ e ∈ cp0Bits, e.1 ≠ 1 := by simp [cp0Bits]
  refine cp0Moved_wrote s (hne e he) ?_
  rw [cp0Set_written _ _ e he, retire_cp0Get s (hne e he)]

/-! ### Registers that cannot be written -/

/-- The read-only registers and the reserved numbers (11_cp0_registers R71). -/
def cp0Fixed : List Reg := [1, 7, 8, 15, 18, 19, 21, 22, 23, 24, 25, 27, 31]

/-- They ignore a write (11_cp0_registers R120). -/
theorem cp0Set_fixed (s : State) (v : DWord) : ∀ rd ∈ cp0Fixed, s.cp0Set rd v = s := by
  simp only [cp0Fixed, List.forall_mem_cons]
  exact ⟨rfl, rfl, rfl, rfl, rfl, rfl, rfl, rfl, rfl, rfl, rfl, rfl, rfl, List.forall_mem_nil _⟩

/-- A move to one of them completes and changes nothing but Random's step. -/
theorem cp0Moved_fixed (s : State) (v : DWord) {rd : Reg} (h : rd ∈ cp0Fixed) :
    s.Continued (cp0Moved s rd v) ∧ s.OnlySystem (cp0Moved s rd v) ∧ (cp0Moved s rd v).tlb = s.tlb ∧
      (cp0Moved s rd v).timerInt = s.timerInt ∧
      (cp0Moved s rd v).cp0 = { s.cp0 with random := (cp0Moved s rd v).cp0.random } := by
  have hm : cp0Moved s rd v = { s.retire with hist := (cp0Moved s rd v).hist } := by
    rw [cp0Moved, noteCp0_rest, cp0Set_fixed _ _ rd h]
  obtain ⟨hpc, hslot, hrandom⟩ := retire_continued s
  rw [hm]
  refine ⟨⟨hpc, hslot, hrandom⟩, ⟨fun a => ?_, ?_⟩, ?_, ?_, ?_⟩ <;> rw [retire_rest]

/-- Settles O36: both instructions leave `cp0Moved`, with a value that is the register read or, for DMTC0 to a 32-bit
register, open. -/
theorem cp0Write : Obligations.Cp0Write := by
  intro s rt hc
  refine ⟨fun e he => ⟨?_, fun h64 hw => ?_, fun h64 _ => ?_⟩, fun rd hrd => ⟨?_, fun h64 => ?_⟩⟩
  · exact ⟨_, exec_mtc0 hc rt e.1, cp0Moved_wrote_bits s _ he⟩
  · have wide : ∀ r ∈ ([2, 3, 4, 10, 14, 20, 30] : List Reg), cp0Wide r = true := by decide
    have hx := exec_dmtc0 hc h64 rt e.1
    rw [wide e.1 hw] at hx
    exact ⟨_, hx, cp0Moved_wrote_bits s _ he⟩
  · exact ⟨_, exec_dmtc0 hc h64 rt e.1, _, cp0Moved_wrote_bits s _ he⟩
  · exact ⟨_, exec_mtc0 hc rt rd, cp0Moved_fixed s _ hrd⟩
  · exact ⟨_, exec_dmtc0 hc h64 rt rd, cp0Moved_fixed s _ hrd⟩

end Sys2Proof.Proofs

/-! ## Proofs: every step keeps the write buffer within its capacity (O11) -/

namespace Sys2Proof.Proofs
open Sys2Proof.Machine

/-- A write buffer that takes one more word: at most three entries, and none of them a line, which would fill it
(20_memory R160). -/
def BufferRoom (l : List WEntry) : Prop := l.length ≤ 3 ∧ ∀ e ∈ l, e.isLine = false

section
variable {s t : State}

/-- The invariant speaks of the write buffer alone. -/
theorem bufferOk_of_wbuf (h : s.bufferOk) (hw : t.wbuf = s.wbuf) : t.bufferOk := by
  unfold State.bufferOk
  rw [hw]
  exact h

theorem bufferOk_of_empty (hw : s.wbuf = []) : s.bufferOk := by
  simp [State.bufferOk, hw]

theorem bufferOk_of_room (h : BufferRoom s.wbuf) : s.bufferOk := by
  obtain ⟨hlen, hwords⟩ := h
  refine ⟨by omega, fun e he hline => ?_⟩
  rw [hwords e he] at hline
  cases hline

/-- A line is alone in the buffer, whatever it is. -/
theorem bufferOk_of_single {e : WEntry} (hw : s.wbuf = [e]) : s.bufferOk := by
  unfold State.bufferOk
  rw [hw]
  refine ⟨Nat.le_add_left 1 3, fun x hx _ => ?_⟩
  rw [List.mem_singleton.mp hx]

/-- Once the head has left there is room: a line has nothing behind it, and of four words three are left
(20_memory R162). -/
theorem bufferRoom_tail {e : WEntry} {l : List WEntry} (hw : s.wbuf = e :: l) (h : s.bufferOk) : BufferRoom l := by
  obtain ⟨hlen, hline⟩ := h
  rw [hw] at hlen hline
  refine ⟨Nat.le_of_succ_le_succ hlen, fun x hx => ?_⟩
  by_contra hx'
  have alone : e :: l = [x] := hline x (List.mem_cons_of_mem e hx) (by simpa using hx')
  rw [(List.cons.inj alone).2] at hx
  exact List.not_mem_nil hx

/-- One more word where there is room. -/
theorem bufferOk_of_push {pa : PAddr} {n : Nat} {d : DWord} {l : List WEntry} (h : BufferRoom l)
    (hw : s.wbuf = l ++ [.word pa n d]) : s.bufferOk := by
  obtain ⟨hlen, hwords⟩ := h
  unfold State.bufferOk
  rw [hw]
  refine ⟨by rw [List.length_append]; exact Nat.succ_le_succ hlen, fun e he hline => ?_⟩
  have hword : e.isLine = false := by
    rcases List.mem_append.mp he with hl | hn
    · exact hwords e hl
    · rw [List.mem_singleton.mp hn]; rfl
  rw [hword] at hline
  cases hline

/-- A sequence whose first part leaves more than the whole is to leave. -/
theorem ResLeaves.bind_stronger {P Q : State → Prop} {α β : Type} {r : Res α} {f : α → State → Res β}
    (hr : ResLeaves Q r) (hQ : ∀ u, Q u → P u) (hf : ∀ a u, Q u → ResLeaves P (f a u)) :
    ResLeaves P (r.bind f) := by
  cases r with
  | ok a u => exact hf a u hr
  | stop o =>
    cases o with
    | next u => exact hQ u hr
    | fault _ => trivial
    | refused _ => trivial

theorem sendWrite_room (e : WEntry) (h : BufferRoom s.wbuf) :
    ResLeaves (fun u => BufferRoom u.wbuf) (s.sendWrite e) := by
  unfold State.sendWrite
  dsimp only
  split
  · trivial
  · split <;> exact h

theorem drainHead_room (h : s.bufferOk) : ResLeaves (fun u => BufferRoom u.wbuf) s.drainHead := by
  unfold State.drainHead
  split
  · rename_i hw
    show BufferRoom s.wbuf
    rw [hw]
    exact ⟨by decide, fun _ he => absurd he List.not_mem_nil⟩
  · rename_i hw
    exact sendWrite_room _ (bufferRoom_tail hw h)

/-- A store finds room, or makes it by letting the head leave (20_memory R162). -/
theorem pushWrite_bufferOk (pa : PAddr) (n : Nat) (d : DWord) (h : s.bufferOk) :
    ResLeaves State.bufferOk (s.pushWrite pa n d) := by
  have room : ResLeaves (fun u => BufferRoom u.wbuf)
      (if s.wbuf.length ≥ 4 || s.wbuf.any (·.isLine) then s.drainHead else .ok () s) := by
    split
    · exact drainHead_room h
    · rename_i hroom
      simp only [Bool.or_eq_true, decide_eq_true_eq, List.any_eq_true, not_or, not_exists, not_and,
        Bool.not_eq_true] at hroom
      obtain ⟨hlen, hwords⟩ := hroom
      exact ⟨by omega, hwords⟩
  exact room.bind_stronger (fun _ => bufferOk_of_room) fun _ _ hu => bufferOk_of_push hu rfl

theorem excRegs_wbuf (s : State) (e : Exc) : (s.excRegs e).wbuf = s.wbuf := by
  cases e <;> rfl

theorem raise_wbuf (s : State) (e : Exc) : (s.raise e).wbuf = s.wbuf := excRegs_wbuf s e

theorem tlbWrite_wbuf (s : State) (i : BitVec 6) : (s.tlbWrite i).wbuf = s.wbuf := by
  unfold State.tlbWrite
  split <;> rfl

theorem eret_wbuf (s : State) : s.eret.wbuf = s.wbuf := by
  unfold State.eret
  dsimp only
  split <;> rfl

/-- Reset empties the write buffer (70_reset_and_hazards R830). -/
theorem coldReset_bufferOk (st : BitVec 256) : Leaves State.bufferOk (s.coldReset st) := by
  unfold State.coldReset
  split
  · exact bufferOk_of_empty rfl
  · trivial

/-- Every operation of the model keeps the write buffer within its capacity. -/
theorem bufferOk_kept : KeptByOps State.bufferOk where
  frame h e := bufferOk_of_wbuf h (congrArg (·.2.2.2.2.2.2.1) e)
  writeGpr r v h := bufferOk_of_wbuf h (by rw [writeGpr_rest])
  cp0Set r v h := bufferOk_of_wbuf h (by rw [cp0Set_eq])
  stepRandom h := h
  setCH _ h := h
  linkAddr _ h := h
  loadedTag _ _ h := h
  counted _ h := h
  fcr31 _ _ h := h
  probed h := h
  tlbRead h := h
  tlbWrite i h := bufferOk_of_wbuf h (tlbWrite_wbuf _ i)
  raise e h := bufferOk_of_wbuf h (raise_wbuf _ e)
  raiseCacheError _ h := h
  killedFetch u k _ ht := bufferOk_of_wbuf ht (by rw [killedFetch_rest])
  eret h := bufferOk_of_wbuf h (eret_wbuf _)
  softEntry h := h
  softReset _ := bufferOk_of_empty rfl
  coldReset st _ := coldReset_bufferOk st
  issue _ h := h
  applied _ h := h
  wroteByte _ _ h := h
  emptied _ := bufferOk_of_empty rfl
  headLeft hw h := bufferOk_of_room (bufferRoom_tail hw h)
  pushWrite := pushWrite_bufferOk
  lineQueued _ _ _ _ _ _ _ := bufferOk_of_single rfl
  putDline _ _ h := h
  putIline _ _ h := h
  busWait _ _ h := h

end

/-- Settles O11: each operation of the model keeps the write buffer within its capacity, so every step does. -/
theorem stepKeepsWriteBuffer : Obligations.StepKeepsWriteBuffer := by
  intro s t h hst
  exact leaves_next (bufferOk_kept.step h) hst

end Sys2Proof.Proofs

/-! ## Proofs: an uncached instruction fetch reads memory (O5) -/

namespace Sys2Proof.Proofs
open Sys2Proof.Machine

/-! ### Numbers read from bytes -/

/-- Bytes `f 0 .. f (n-1)` that are the low `n` digits of `x` to base 256 are the number they spell, in either order. -/
theorem bytesValue_digits {be : Bool} {f : Nat → Byte} {n x : Nat}
    (h : ∀ k < n, (f k).toNat = x / 256 ^ (if be then n - 1 - k else k) % 256) :
    bytesValue be f n = x % 256 ^ n := by
  induction n generalizing x with
  | zero => rw [Nat.pow_zero, Nat.mod_one]; rfl
  | succ n ih =>
    cases be with
    | false =>
      have low : bytesValue false f n = x % 256 ^ n := ih fun k hk => h k (by omega)
      have last : (f n).toNat = x / 256 ^ n % 256 := h n (by omega)
      calc bytesValue false f (n + 1)
          = bytesValue false f n + (f n).toNat * 256 ^ n := rfl
        _ = x % 256 ^ (n + 1) := by rw [low, last, Nat.mod_pow_succ, Nat.mul_comm]
    | true =>
      have high : bytesValue true f n = x / 256 % 256 ^ n := ih fun k hk => by
        have hd : n + 1 - 1 - k = (n - 1 - k) + 1 := by omega
        have hfk := h k (by omega)
        rw [if_pos rfl, hd, Nat.pow_succ', ← Nat.div_div_eq_div_mul] at hfk
        exact hfk
      have last : (f n).toNat = x % 256 := by simpa using h n (by omega)
      calc bytesValue true f (n + 1)
          = bytesValue true f n * 256 + (f n).toNat := rfl
        _ = x % 256 ^ (n + 1) := by
          rw [high, last, Nat.pow_succ', Nat.mod_mul, Nat.mul_comm, Nat.add_comm]

/-- A byte of a word is a digit of its number to base 256. -/
theorem toNat_extract_byte (w : Word) (j : Nat) : (w.extractLsb' (8 * j) 8).toNat = w.toNat / 256 ^ j % 256 := by
  rw [BitVec.extractLsb'_toNat, Nat.shiftRight_eq_div_pow, Nat.pow_mul]

/-- A word is the number its bytes spell, the first of them the most significant if `be`. -/
theorem toNat_eq_bytesValue {be : Bool} {w : Word} {f : Nat → Byte}
    (h : ∀ k < 4, w.extractLsb' (8 * (if be then 3 - k else k)) 8 = f k) : w.toNat = bytesValue be f 4 := by
  have digits : ∀ k < 4, (f k).toNat = w.toNat / 256 ^ (if be then 4 - 1 - k else k) % 256 := fun k hk => by
    rw [← h k hk, toNat_extract_byte]
  rw [bytesValue_digits digits]
  exact (Nat.mod_eq_of_lt w.isLt).symm

/-! ### The word at an aligned address -/

theorem extract_low32 (d : DWord) {j : Nat} (hj : j < 4) : (low32 d).extractLsb' (8 * j) 8 = lane d j := by
  unfold low32 lane
  rw [BitVec.extractLsb'_setWidth_of_le (by omega)]

theorem extract_high32 (d : DWord) {j : Nat} (hj : j < 4) : (high32 d).extractLsb' (8 * j) 8 = lane d (4 + j) := by
  unfold high32 lane
  ext i hi
  simp only [BitVec.getElem_extractLsb', BitVec.getLsbD_extractLsb']
  rw [decide_eq_true (by omega), Bool.true_and]
  congr 1
  omega

/-- Bit 2 of an aligned address tells the half of the doubleword. -/
theorem mod8_of_aligned {pa : PAddr} (ha : pa.toNat % 4 = 0) : pa.toNat % 8 = if pa.getLsbD 2 then 4 else 0 := by
  have hbit : pa.getLsbD 2 = decide (pa.toNat / 4 % 2 = 1) := Nat.testBit_eq_decide_div_mod_eq
  rw [hbit]
  split <;> simp_all <;> omega

/-- A byte of the word at `pa` is a lane of the doubleword that contains it. -/
theorem extract_wordOf (be : Bool) (pa : PAddr) (d : DWord) {j : Nat} (hj : j < 4) :
    (wordOf be pa d).extractLsb' (8 * j) 8 = lane d (if pa.getLsbD 2 = be then j else 4 + j) := by
  unfold wordOf
  split
  · exact extract_low32 d hj
  · exact extract_high32 d hj

/-- Byte `k` of the word at an aligned address lies `k` places after it, in the order of the system (20_memory R147). -/
theorem extract_wordOf_memDword (be : Bool) (mem : List Host.Cell) {pa : PAddr} (ha : pa.toNat % 4 = 0) {k : Nat}
    (hk : k < 4) :
    (wordOf be pa (memDword be mem pa)).extractLsb' (8 * (if be then 3 - k else k)) 8 =
      Memory.read mem (pa.toNat + k) := by
  have hj : (if be then 3 - k else k) < 4 := by split <;> omega
  have hlane : (if pa.getLsbD 2 = be then (if be then 3 - k else k) else 4 + (if be then 3 - k else k)) < 8 := by
    split <;> omega
  have h8 := mod8_of_aligned ha
  rw [extract_wordOf be pa _ hj, lane_memDword be mem pa hlane]
  congr 1
  unfold laneOf
  cases be <;> cases hb : pa.getLsbD 2 <;>
    simp only [hb, if_true, if_false, reduceCtorEq, Bool.false_eq_true] at h8 ⊢ <;> omega

/-! ### A fetch where nothing was written lately -/

/-- With no late write of memory recorded a fetch sees memory as it is (70_reset_and_hazards R864). -/
theorem codeMem_of_no_code {s : State} (h : ∀ l ∈ s.hist, l.what.isCode = false) (base len : Nat) :
    s.codeMem base len = s.mem := by
  unfold State.codeMem
  refine List.foldlRecOn (motive := (· = s.mem)) _ _ rfl fun m hm l hl => ?_
  have hnot := h l hl
  split
  · rename_i hw
    rw [hw] at hnot
    cases hnot
  · exact hm

/-- A read of memory for a fetch, with no write buffered: only the request goes out. -/
theorem busRead_fetch {s : State} (hq : s.quiet) (hbuf : s.wbuf = []) (hcode : ∀ l ∈ s.hist, l.what.isCode = false)
    (req : BusReq) {pa : PAddr} (hk : s.cfg.kindAt pa req.size = none) (line : Option (Bool × Nat)) :
    s.busRead req pa true line =
      .ok (s.response none s.mem line.isSome pa) { s with bus := req :: s.bus } := by
  obtain ⟨-, hdma, hreply⟩ := hq
  have hdrain : s.drain = .ok () s := by
    unfold State.drain
    rw [hbuf, State.sendAll, ← hbuf]
  have hmem := codeMem_of_no_code (s := { s with bus := req :: s.bus }) hcode
  unfold State.busRead
  rw [hreply]
  simp only [hdrain, Res.bind, hk, issue_quiet hdma, hmem, reduceCtorEq, if_false, if_true]
  rw [hreply]

/-- An uncached read of memory for a fetch brings the aligned doubleword (22_caches R250). -/
theorem uncachedRead_fetch {s : State} {pa : PAddr} {n : Nat} (hp : s.plain pa n) (hbuf : s.wbuf = [])
    (hcode : ∀ l ∈ s.hist, l.what.isCode = false) (va : DWord) :
    s.uncachedRead va pa n true =
      .ok (memDword s.cfg.bigEndian s.mem pa) { s with bus := .read pa n :: s.bus } := by
  obtain ⟨hk, hq⟩ := hp
  have hread := busRead_fetch hq hbuf hcode (.read pa n) hk none
  have hgood : ∀ u : State, u.checkResponse (s.response none s.mem false pa) true false va pa = .ok () u := fun u =>
    checkResponse_good u (respError_response ..) (respBad_response ..) ..
  unfold State.uncachedRead
  rw [hread]
  simp only [Res.bind, Option.isSome_none, Bool.not_true, hgood, dword_response]

/-- An address that is a multiple of the size passes the alignment test. -/
theorem aligned_of_mod {s : State} {va : DWord} {n : Nat} (h : va.toNat % n = 0) (store : Bool) :
    s.aligned va n store = .ok () s := if_pos h

/-- A translation that is no exception lets the instruction go on. -/
theorem xlate_of_translate {s : State} {k : AccessKind} {va : DWord} {pa : PAddr} {attr : BitVec 3}
    (h : s.translate k va = .ok pa attr) : s.xlate k va = .ok (pa, attr) s := by
  unfold State.xlate
  rw [h]

/-- A fetch from an aligned, uncached address. -/
theorem fetch_uncached {s : State} {pa : PAddr} (hpc : s.pc.toNat % 4 = 0)
    (hx : s.translate .fetch s.pc = .ok pa 2) (hp : s.plain pa 4) (hbuf : s.wbuf = [])
    (hcode : ∀ l ∈ s.hist, l.what.isCode = false) :
    s.fetch = .ok (wordOf s.cfg.bigEndian pa (memDword s.cfg.bigEndian s.mem pa))
      { s with bus := .read pa 4 :: s.bus } := by
  unfold State.fetch
  simp only [aligned_of_mod hpc, xlate_of_translate hx, Res.bind, State.fetchWord, if_pos,
    uncachedRead_fetch hp hbuf hcode]

/-- The smallest page keeps the alignment of a word. -/
theorem maps_aligned {s : State} {k : AccessKind} {va : DWord} {pa : PAddr} {attr : BitVec 3}
    (h : s.maps k va pa attr) (ha : va.toNat % 4 = 0) : pa.toNat % 4 = 0 := by
  obtain ⟨-, hoff⟩ := h
  have hnat := congrArg BitVec.toNat hoff
  simp only [BitVec.extractLsb'_toNat, Nat.shiftRight_zero] at hnat
  omega

/-- Settles O5: the word fetched is the half of the doubleword that the address selects, and its bytes are those of
memory. -/
theorem fetchReadsMemory : Obligations.FetchReadsMemory := by
  intro s pa hpc hmaps hplain hbuf hcode
  have ha := maps_aligned hmaps hpc
  obtain ⟨hx, -⟩ := hmaps
  exact ⟨_, fetch_uncached hpc hx hplain hbuf hcode,
    toNat_eq_bytesValue fun _ hk => extract_wordOf_memDword _ _ ha hk⟩

end Sys2Proof.Proofs

/-! ## Proofs: address translation (O60) -/

namespace Sys2Proof.Proofs
open Sys2Proof.Machine

/-! ### Bit fields as numbers -/

/-- A bit field as digits of the number: when it is `c`. -/
theorem extract_eq_iff {n : Nat} (v : BitVec n) (i m : Nat) (c : BitVec m) :
    v.extractLsb' i m = c ↔ v.toNat / 2 ^ i % 2 ^ m = c.toNat := by
  rw [BitVec.toNat_eq, BitVec.extractLsb'_toNat, Nat.shiftRight_eq_div_pow]

/-- A bit of a word is a binary digit of its number. -/
theorem getLsbD_iff_digit {n : Nat} (v : BitVec n) (i : Nat) : v.getLsbD i = true ↔ v.toNat / 2 ^ i % 2 = 1 := by
  rw [BitVec.getLsbD, Nat.testBit_eq_decide_div_mod_eq, decide_eq_true_iff]

/-- The low bits of a word, as a physical address. -/
theorem setWidth_extract_low {n : Nat} (v : BitVec n) (m w : Nat) :
    (v.extractLsb' 0 m).setWidth w = BitVec.ofNat w (v.toNat % 2 ^ m) :=
  BitVec.eq_of_toNat_eq (by simp)

/-- A bit field as a number. -/
theorem extract_eq_ofNat {n : Nat} (v : BitVec n) (i m : Nat) :
    v.extractLsb' i m = BitVec.ofNat m (v.toNat / 2 ^ i % 2 ^ m) :=
  (extract_eq_iff ..).mpr (by rw [BitVec.toNat_ofNat, Nat.mod_mod])

/-! ### The segments of each mode as ranges of addresses -/

/-- The sign-extended words are the lowest and the highest 2 ^ 31 doublewords. -/
theorem isSext32_iff (v : DWord) : isSext32 v = true ↔ v.toNat < 2 ^ 31 ∨ 2 ^ 64 - 2 ^ 31 ≤ v.toNat := by
  have hv := v.isLt
  have hmsb : (low32 v).msb = decide (2 ^ 31 ≤ v.toNat % 2 ^ 32) := by
    rw [BitVec.msb_eq_decide, low32, BitVec.toNat_setWidth]
  rw [isSext32, beq_iff_eq, BitVec.toNat_eq, sext64, BitVec.toNat_signExtend, hmsb]
  simp only [low32, BitVec.toNat_setWidth, decide_eq_true_iff]
  split <;> omega

/-- User mode with 32-bit addressing: the segment useg (21_mmu_tlb R182). -/
theorem segUser32_eq (va : DWord) : segUser false va = if va.toNat < 2 ^ 31 then .mapped else .illegal := by
  have hv := va.isLt
  simp only [segUser, Bool.false_eq_true, if_false, Bool.and_eq_true, Bool.not_eq_true', ← Bool.not_eq_true,
    isSext32_iff, getLsbD_iff_digit]
  exact if_congr (by omega) rfl rfl

/-- User mode with 64-bit addressing: the segment xuseg (21_mmu_tlb R182). -/
theorem segUser64_eq (va : DWord) : segUser true va = if va.toNat < 2 ^ 40 then .mapped else .illegal := by
  have hv := va.isLt
  simp only [segUser, if_true, extract_eq_iff, BitVec.reduceToNat]
  exact if_congr (by omega) rfl rfl

/-- Supervisor mode with 32-bit addressing: the segments suseg and sseg (21_mmu_tlb R183). -/
theorem segSupervisor32_eq (va : DWord) :
    segSupervisor false va =
      if va.toNat < 2 ^ 31 ∨ (0xFFFFFFFFC0000000 ≤ va.toNat ∧ va.toNat < 0xFFFFFFFFE0000000) then .mapped
      else .illegal := by
  have hv := va.isLt
  simp only [segSupervisor, Bool.false_eq_true, if_false, Bool.and_eq_true, Bool.or_eq_true, decide_eq_true_iff,
    Bool.not_eq_true', ← Bool.not_eq_true, isSext32_iff, getLsbD_iff_digit, extract_eq_iff, BitVec.reduceToNat]
  exact if_congr (by omega) rfl rfl

/-- Supervisor mode with 64-bit addressing: the segments xsuseg, xsseg and csseg (21_mmu_tlb R183). -/
theorem segSupervisor64_eq (va : DWord) :
    segSupervisor true va =
      if va.toNat < 2 ^ 40 ∨ (2 ^ 62 ≤ va.toNat ∧ va.toNat < 2 ^ 62 + 2 ^ 40) ∨
          (0xFFFFFFFFC0000000 ≤ va.toNat ∧ va.toNat < 0xFFFFFFFFE0000000) then .mapped
      else .illegal := by
  have hv := va.isLt
  simp only [segSupervisor, if_true, extract_eq_iff, Bool.and_eq_true, Bool.or_eq_true, decide_eq_true_iff,
    BitVec.reduceToNat]
  split_ifs
  any_goals rfl
  all_goals omega

/-- Kernel mode above 2 ^ 64 - 2 ^ 31: two unmapped segments of 2 ^ 29 bytes, then a mapped one (21_mmu_tlb R186,
R187, R189). -/
theorem segCompat_eq (k0 : BitVec 3) {va : DWord} (h : 0xFFFFFFFF80000000 ≤ va.toNat) :
    segCompat k0 va =
      if va.toNat / 2 ^ 29 = 0x7FFFFFFFC then .unmapped (BitVec.ofNat 36 (va.toNat % 2 ^ 29)) k0
      else if va.toNat / 2 ^ 29 = 0x7FFFFFFFD then .unmapped (BitVec.ofNat 36 (va.toNat % 2 ^ 29)) 2
      else .mapped := by
  have hv := va.isLt
  simp only [segCompat, extract_eq_iff, setWidth_extract_low, BitVec.reduceToNat]
  exact if_congr (by omega) rfl (if_congr (by omega) rfl rfl)

/-- Kernel mode with 32-bit addressing (21_mmu_tlb R184, R191, R195). -/
theorem segKernel32_eq (erl : Bool) (k0 : BitVec 3) (va : DWord) :
    segKernel false erl k0 va =
      if va.toNat < 2 ^ 31 then (if erl then .unmapped (BitVec.ofNat 36 (va.toNat % 2 ^ 31)) 2 else .mapped)
      else if 0xFFFFFFFF80000000 ≤ va.toNat then segCompat k0 va
      else .illegal := by
  have hv := va.isLt
  simp only [segKernel, Bool.false_eq_true, if_false, Bool.not_eq_true', ← Bool.not_eq_true, isSext32_iff,
    getLsbD_iff_digit, setWidth_extract_low]
  split_ifs
  any_goals rfl
  all_goals omega

/-- Kernel mode with 64-bit addressing (21_mmu_tlb R185, R188, R190, R191, D17, D18). -/
theorem segKernel64_eq (erl : Bool) (k0 : BitVec 3) (va : DWord) :
    segKernel true erl k0 va =
      if erl = true ∧ va.toNat < 2 ^ 31 then .unmapped (BitVec.ofNat 36 (va.toNat % 2 ^ 31)) 2
      else if va.toNat / 2 ^ 62 = 2 then
        if va.toNat / 2 ^ 36 % 2 ^ 23 = 0 then .unmapped (va.extractLsb' 0 36) (va.extractLsb' 59 3) else .illegal
      else if 0xFFFFFFFF80000000 ≤ va.toNat then segCompat k0 va
      else if va.toNat < 2 ^ 40 ∨ (2 ^ 62 ≤ va.toNat ∧ va.toNat < 2 ^ 62 + 2 ^ 40) ∨
          (0xC000000000000000 ≤ va.toNat ∧ va.toNat < 0xC00000FF80000000) then .mapped
      else .illegal := by
  have hv := va.isLt
  simp only [segKernel, if_true, extract_eq_iff, setWidth_extract_low, Bool.and_eq_true, decide_eq_true_iff,
    BitVec.reduceToNat, BitVec.toNat_allOnes]
  cases erl <;> simp only [Bool.false_eq_true, false_and, true_and, if_false]
  all_goals split_ifs
  any_goals rfl
  all_goals omega

/-! ### The segment of an address where nothing was written lately -/

section
variable {s : State} {k : AccessKind} {va : DWord}

/-- The segment map as Status and Config are held. -/
def calmSegment (s : State) (va : DWord) : Seg :=
  Machine.segment s.cp0.status s.cp0.status (s.cp0.config.extractLsb' 0 3) va

/-- With no late write recorded no TLBP came before. -/
theorem afterTlbp_calm (h : s.hist = []) : s.afterTlbp = false := by
  rw [State.afterTlbp, h]; rfl

/-- With no late write recorded every reference goes by the segment of the registers as they are held. -/
theorem segment_calm (h : s.hist = []) (who who' : Reader) :
    Machine.segment (s.statusSeen who) (s.statusSeen who') ((s.cp0Seen 16 who (zext64 s.cp0.config)).setWidth 3) va =
      calmSegment s va := by
  have hk0 : (zext64 s.cp0.config).setWidth 3 = s.cp0.config.extractLsb' 0 3 :=
    BitVec.eq_of_toNat_eq (by simp [zext64])
  rw [statusSeen_calm h, statusSeen_calm h, cp0Seen_calm h, hk0, calmSegment]

/-- An address outside the segments takes the Address Error exception (21_mmu_tlb R190, R195). -/
theorem translate_illegal (h : s.hist = []) (hseg : calmSegment s va = .illegal) :
    s.translate k va = .exc (.addressError va (k == .store)) := by
  simp only [State.translate, segment_calm h, afterTlbp_calm h, hseg, Bool.false_and, Bool.false_eq_true, if_false,
    AccessKind.isStore]

/-- An unmapped segment gives its own address and cacheability. -/
theorem translate_unmapped (h : s.hist = []) {pa : PAddr} {attr : BitVec 3}
    (hseg : calmSegment s va = .unmapped pa attr) : s.translate k va = .ok pa (attrOf attr) := by
  simp only [State.translate, segment_calm h, afterTlbp_calm h, hseg, Bool.false_and, Bool.false_eq_true, if_false]

/-- A mapped segment goes through the TLB. -/
theorem translate_mapped (h : s.hist = []) (hseg : calmSegment s va = .mapped) :
    s.translate k va = s.translateMapped k (s.cp0.entryHi.setWidth 8) va := by
  simp only [State.translate, segment_calm h, cp0Seen_calm h 10, afterTlbp_calm h, hseg, Bool.false_and,
    Bool.false_eq_true, if_false]

/-! ### The address map in the words of the statement -/

/-- In User mode Status.UX gives the width (21_mmu_tlb R181). -/
theorem calmSegment_user (hm : modeOf s.cp0.status = some .user) :
    calmSegment s va = segUser (s.cp0.status.getLsbD 5) va := by
  rw [calmSegment, Machine.segment, hm]; rfl

/-- In Supervisor mode Status.SX gives the width (21_mmu_tlb R181). -/
theorem calmSegment_supervisor (hm : modeOf s.cp0.status = some .supervisor) :
    calmSegment s va = segSupervisor (s.cp0.status.getLsbD 6) va := by
  rw [calmSegment, Machine.segment, hm]; rfl

/-- In Kernel mode Status.KX gives the width (21_mmu_tlb R181). -/
theorem calmSegment_kernel (hm : modeOf s.cp0.status = some .kernel) :
    calmSegment s va =
      segKernel (s.cp0.status.getLsbD 7) (s.cp0.status.getLsbD 2) (s.cp0.config.extractLsb' 0 3) va := by
  rw [calmSegment, Machine.segment, hm]; rfl

/-- The compatibility segments are the same in both widths. -/
theorem calmSegment_compat (hm : modeOf s.cp0.status = some .kernel) (hv : 0xFFFFFFFF80000000 ≤ va.toNat) :
    calmSegment s va = segCompat (s.cp0.config.extractLsb' 0 3) va := by
  rw [calmSegment_kernel hm]
  cases s.cp0.status.getLsbD 7 with
  | false => rw [segKernel32_eq, if_neg (by omega), if_pos hv]
  | true => rw [segKernel64_eq, if_neg (by omega), if_neg (by omega), if_pos hv]

/-- With ERL the low 2 ^ 31 bytes are unmapped and uncached, in both widths (21_mmu_tlb R191). -/
theorem calmSegment_errorLevel (hm : modeOf s.cp0.status = some .kernel) (he : s.cp0.status.getLsbD 2 = true)
    (hv : va.toNat < 2 ^ 31) : calmSegment s va = .unmapped (BitVec.ofNat 36 va.toNat) 2 := by
  rw [calmSegment_kernel hm, he, ← Nat.mod_eq_of_lt hv]
  cases s.cp0.status.getLsbD 7 with
  | false => rw [segKernel32_eq, if_pos hv, if_pos rfl]
  | true => rw [segKernel64_eq, if_pos ⟨rfl, hv⟩]

/-- The segment xkphys (21_mmu_tlb R188). -/
theorem calmSegment_xkphys (hm : modeOf s.cp0.status = some .kernel) (hx : s.cp0.status.getLsbD 7 = true)
    (hv : va.toNat / 2 ^ 62 = 2) :
    calmSegment s va =
      if va.toNat / 2 ^ 36 % 2 ^ 23 = 0 then
        .unmapped (BitVec.ofNat 36 (va.toNat % 2 ^ 36)) (BitVec.ofNat 3 (va.toNat / 2 ^ 59 % 2 ^ 3))
      else .illegal := by
  rw [calmSegment_kernel hm, hx, segKernel64_eq, if_neg (by omega), if_pos hv, extract_eq_ofNat, extract_eq_ofNat,
    pow_zero, Nat.div_one]

/-- A row of the two tables of addresses: a mode, the bit of Status that enables its 64-bit addressing, the value of
that bit, the first address of the range and the first one after it. -/
abbrev MapRow := Mode × Nat × Bool × Nat × Nat

/-- An address lies in a row of a table, in the mode and width the row is for. -/
def InRow (s : State) (va : DWord) (e : MapRow) : Prop :=
  modeOf s.cp0.status = some e.1 ∧ s.cp0.status.getLsbD e.2.1 = e.2.2.1 ∧ e.2.2.2.1 ≤ va.toNat ∧
    va.toNat < e.2.2.2.2

/-- The mapped ranges of each mode and width (21_mmu_tlb R182 to R191). -/
def mappedRows : List MapRow :=
  [(.user, 5, false, 0, 2 ^ 31), (.user, 5, true, 0, 2 ^ 40), (.supervisor, 6, false, 0, 2 ^ 31),
   (.supervisor, 6, false, 0xFFFFFFFFC0000000, 0xFFFFFFFFE0000000), (.supervisor, 6, true, 0, 2 ^ 40),
   (.supervisor, 6, true, 2 ^ 62, 2 ^ 62 + 2 ^ 40),
   (.supervisor, 6, true, 0xFFFFFFFFC0000000, 0xFFFFFFFFE0000000), (.kernel, 7, false, 0, 2 ^ 31),
   (.kernel, 7, false, 0xFFFFFFFFC0000000, 2 ^ 64), (.kernel, 7, true, 0, 2 ^ 40),
   (.kernel, 7, true, 2 ^ 62, 2 ^ 62 + 2 ^ 40), (.kernel, 7, true, 0xC000000000000000, 0xC00000FF80000000),
   (.kernel, 7, true, 0xFFFFFFFFC0000000, 2 ^ 64)]

/-- The ranges that take the Address Error exception (21_mmu_tlb R190, R195, D17). -/
def illegalRows : List MapRow :=
  [(.user, 5, false, 2 ^ 31, 2 ^ 64), (.user, 5, true, 2 ^ 40, 2 ^ 64),
   (.supervisor, 6, false, 2 ^ 31, 0xFFFFFFFFC0000000), (.supervisor, 6, false, 0xFFFFFFFFE0000000, 2 ^ 64),
   (.supervisor, 6, true, 2 ^ 40, 2 ^ 62), (.supervisor, 6, true, 2 ^ 62 + 2 ^ 40, 0xFFFFFFFFC0000000),
   (.supervisor, 6, true, 0xFFFFFFFFE0000000, 2 ^ 64), (.kernel, 7, false, 2 ^ 31, 0xFFFFFFFF80000000),
   (.kernel, 7, true, 2 ^ 40, 2 ^ 62), (.kernel, 7, true, 2 ^ 62 + 2 ^ 40, 2 ^ 63),
   (.kernel, 7, true, 0xC00000FF80000000, 0xFFFFFFFF80000000)]

/-- The second table agrees with the segment map. -/
theorem calmSegment_illegal : ∀ e ∈ illegalRows, InRow s va e → calmSegment s va = .illegal := by
  simp only [illegalRows, InRow, List.forall_mem_cons, List.not_mem_nil, false_implies, implies_true, and_true]
  and_intros <;> rintro ⟨hm, hx, hlo, hhi⟩
  · rw [calmSegment_user hm, hx, segUser32_eq, if_neg (by omega)]
  · rw [calmSegment_user hm, hx, segUser64_eq, if_neg (by omega)]
  iterate 2 · rw [calmSegment_supervisor hm, hx, segSupervisor32_eq, if_neg (by omega)]
  iterate 3 · rw [calmSegment_supervisor hm, hx, segSupervisor64_eq, if_neg (by omega)]
  · rw [calmSegment_kernel hm, hx, segKernel32_eq, if_neg (by omega), if_neg (by omega)]
  iterate 3
    · rw [calmSegment_kernel hm, hx, segKernel64_eq, if_neg (by omega), if_neg (by omega), if_neg (by omega),
        if_neg (by omega)]

/-- The mapped compatibility segments ksseg and kseg3 (21_mmu_tlb R189). -/
theorem calmSegment_upper (hm : modeOf s.cp0.status = some .kernel) (hv : 0xFFFFFFFFC0000000 ≤ va.toNat) :
    calmSegment s va = .mapped := by
  have hva := va.isLt
  rw [calmSegment_compat hm (by omega), segCompat_eq _ (by omega), if_neg (by omega), if_neg (by omega)]

/-- The first table agrees with the segment map, but where ERL unmaps the low 2 ^ 31 bytes. -/
theorem calmSegment_mapped
    (hu : ¬ (modeOf s.cp0.status = some .kernel ∧ s.cp0.status.getLsbD 2 = true ∧ va.toNat < 2 ^ 31)) :
    ∀ e ∈ mappedRows, InRow s va e → calmSegment s va = .mapped := by
  simp only [mappedRows, InRow, List.forall_mem_cons, List.not_mem_nil, false_implies, implies_true, and_true]
  and_intros <;> rintro ⟨hm, hx, hlo, hhi⟩
  · rw [calmSegment_user hm, hx, segUser32_eq, if_pos hhi]
  · rw [calmSegment_user hm, hx, segUser64_eq, if_pos hhi]
  iterate 2 · rw [calmSegment_supervisor hm, hx, segSupervisor32_eq, if_pos (by omega)]
  iterate 3 · rw [calmSegment_supervisor hm, hx, segSupervisor64_eq, if_pos (by omega)]
  · rw [calmSegment_kernel hm, hx, segKernel32_eq, if_pos hhi, if_neg fun he => hu ⟨hm, he, hhi⟩]
  · exact calmSegment_upper hm hlo
  iterate 3
    · rw [calmSegment_kernel hm, hx, segKernel64_eq, if_neg fun he => hu ⟨hm, he⟩, if_neg (by omega),
        if_neg (by omega), if_pos (by omega)]
  · exact calmSegment_upper hm hlo

end

/-! ### The TLB lookup -/

/-- Of the values of `f`, a filter that only one index passes keeps that one. -/
theorem filter_ofFn_unique {n : Nat} {α : Type} {f : Fin n → α} {p : α → Bool} {i : Fin n} (hi : p (f i) = true)
    (hu : ∀ j, p (f j) = true → j = i) : (List.ofFn f).filter p = [f i] := by
  have hp : ∀ j ∈ List.finRange n, (p ∘ f) j = (j == i) := fun j _ =>
    Bool.eq_iff_iff.mpr ⟨fun hj => beq_iff_eq.mpr (hu j hj), fun hj => (beq_iff_eq.mp hj) ▸ hi⟩
  rw [List.ofFn_eq_map, List.filter_map, List.filter_congr hp, List.filter_beq,
    List.count_eq_one_of_mem (List.nodup_finRange n) (List.mem_finRange i)]
  rfl

/-- A TLB entry matches if region, ASID and the unmasked bits of the page number agree (21_mmu_tlb R203). -/
theorem hits_iff (e : TlbEntry) (va hi : DWord) :
    e.hits (va.extractLsb' 62 2) (va.extractLsb' 13 27) (hi.setWidth 8) = true ↔
      e.r.toNat = va.toNat / 2 ^ 62 ∧ (e.g = true ∨ e.asid.toNat = hi.toNat % 256) ∧
        ∀ b < 27, e.mask.getLsbD b = false → e.vpn2.getLsbD b = va.getLsbD (13 + b) := by
  have hv := va.isLt
  have hregion : va.extractLsb' 62 2 = e.r ↔ e.r.toNat = va.toNat / 2 ^ 62 := by
    rw [BitVec.toNat_eq, BitVec.extractLsb'_toNat, Nat.shiftRight_eq_div_pow]; omega
  have hasid : e.asid = hi.setWidth 8 ↔ e.asid.toNat = hi.toNat % 256 := by
    rw [BitVec.toNat_eq, BitVec.toNat_setWidth]
  have hpage : e.vpn2 &&& ~~~ e.mask.setWidth 27 = va.extractLsb' 13 27 &&& ~~~ e.mask.setWidth 27 ↔
      ∀ b < 27, e.mask.getLsbD b = false → e.vpn2.getLsbD b = va.getLsbD (13 + b) := by
    rw [BitVec.eq_of_getLsbD_eq_iff]
    refine forall₂_congr fun b hb => ?_
    cases hm : e.mask.getLsbD b <;> simp [hb, hm]
  simp only [TlbEntry.hits, Bool.and_eq_true, Bool.or_eq_true, beq_iff_eq, hpage, hasid, eq_comm (a := e.r), hregion]
  tauto

section
variable {s : State} {k : AccessKind} {va : DWord}

/-- With no late write recorded and legal masks the matching entries are those of the TLB as it is held. -/
theorem tlbMatches_calm (h : s.hist = []) (hlegal : ∀ i : Fin 48, legalMask s.tlb[i].mask = true)
    (r : BitVec 2) (vpn2 : BitVec 27) (asid : BitVec 8) :
    s.tlbMatches k r vpn2 asid =
      (List.ofFn fun i : Fin 48 => (i.val, s.tlb[i])).filter fun p => p.2.hits r vpn2 asid := by
  have hseen : ∀ i e, s.tlbSeen k i e = e := fun i e => by simp [State.tlbSeen, h]
  have hlist : (s.tlb.toList.mapIdx fun i e => (i, s.tlbSeen k i e)) =
      List.ofFn fun i : Fin 48 => (i.val, s.tlb[i]) := by
    simp only [hseen]
    exact List.ext_getElem (by rw [List.length_mapIdx, List.length_ofFn, Vector.length_toList]) fun i _ _ => by
      rw [List.getElem_mapIdx, List.getElem_ofFn, Vector.getElem_toList]; rfl
  rw [State.tlbMatches, hlist]
  refine List.filter_congr fun p hp => ?_
  obtain ⟨i, rfl⟩ := (List.mem_ofFn' _ _).mp hp
  exact if_pos (hlegal i)

/-- No matching entry: TLB Refill (21_mmu_tlb R210 step 3). -/
theorem translateMapped_none (h : s.hist = []) (hlegal : ∀ i : Fin 48, legalMask s.tlb[i].mask = true)
    {asid : BitVec 8}
    (hnone : ∀ i : Fin 48, ¬ s.tlb[i].hits (va.extractLsb' 62 2) (va.extractLsb' 13 27) asid = true) :
    s.translateMapped k asid va = .exc (.tlbRefill va (k == .store)) := by
  have hnil : s.tlbMatches k (va.extractLsb' 62 2) (va.extractLsb' 13 27) asid = [] := by
    rw [tlbMatches_calm h hlegal, List.filter_eq_nil_iff, List.forall_mem_ofFn_iff]
    exact hnone
  rw [State.translateMapped, hnil]; rfl

/-- One matching entry: the translation is that entry's (21_mmu_tlb R210 steps 4 and 5). -/
theorem translateMapped_one (h : s.hist = []) (hlegal : ∀ i : Fin 48, legalMask s.tlb[i].mask = true)
    {asid : BitVec 8} {i : Fin 48} (hi : s.tlb[i].hits (va.extractLsb' 62 2) (va.extractLsb' 13 27) asid = true)
    (hone : ∀ j : Fin 48, s.tlb[j].hits (va.extractLsb' 62 2) (va.extractLsb' 13 27) asid = true → j = i) :
    s.translateMapped k asid va = s.tlb[i].translate k va := by
  have hmatch : s.tlbMatches k (va.extractLsb' 62 2) (va.extractLsb' 13 27) asid = [(i.val, s.tlb[i])] := by
    rw [tlbMatches_calm h hlegal]
    exact filter_ofFn_unique hi hone
  rw [State.translateMapped, hmatch]
  exact if_pos (hlegal i)

end

/-! ### The page of a legal mask -/

/-- A legal mask belongs to a page of a power of two bytes, at most 2 ^ 24 (11_cp0_registers R78). -/
theorem legalMask_page {m : BitVec 12} (h : legalMask m = true) :
    ∃ t ≤ 24, 4096 * (m.toNat + 1) = 2 ^ t ∧ offsetMask m = BitVec.ofNat 36 (2 ^ t - 1) := by
  simp only [legalMask, Bool.or_eq_true, decide_eq_true_iff] at h
  rcases h with (((((rfl | rfl) | rfl) | rfl) | rfl) | rfl) | rfl
  exacts [⟨12, by decide⟩, ⟨14, by decide⟩, ⟨16, by decide⟩, ⟨18, by decide⟩, ⟨20, by decide⟩, ⟨22, by decide⟩,
    ⟨24, by decide⟩]

/-- The odd page is selected where the page number is odd. -/
theorem oddPage_iff {m : BitVec 12} (h : legalMask m = true) (va : DWord) :
    oddPage m va = true ↔ va.toNat / (4096 * (m.toNat + 1)) % 2 = 1 := by
  obtain ⟨t, ht, hsize, hoff⟩ := legalMask_page h
  have hpow : 2 ^ t ≤ 2 ^ 24 := Nat.pow_le_pow_right (by decide) ht
  have hpos : 0 < 2 ^ t := Nat.two_pow_pos t
  have hbit : offsetMask m + 1 = BitVec.twoPow 36 t := BitVec.eq_of_toNat_eq (by
    simp only [hoff, BitVec.toNat_add, BitVec.toNat_ofNat, BitVec.toNat_twoPow, BitVec.reduceToNat]
    omega)
  have hne : BitVec.twoPow 36 t ≠ 0 := fun h0 => by
    simp only [BitVec.toNat_eq, BitVec.toNat_twoPow, BitVec.reduceToNat] at h0
    omega
  rw [oddPage, hbit, BitVec.and_twoPow, hsize, ← getLsbD_iff_digit, BitVec.getLsbD_setWidth,
    decide_eq_true (by omega : t < 36), Bool.true_and]
  cases va.getLsbD t with
  | false => simp
  | true => exact iff_of_true (bne_iff_ne.mpr hne) rfl

/-- The high bits of one word over the low `t` bits of another. -/
theorem splice_low {n t : Nat} (x y : BitVec n) :
    (x &&& ~~~ BitVec.ofNat n (2 ^ t - 1)) ||| (y &&& BitVec.ofNat n (2 ^ t - 1)) =
      BitVec.ofNat n (x.toNat / 2 ^ t * 2 ^ t + y.toNat % 2 ^ t) := by
  refine BitVec.eq_of_getLsbD_eq fun i hi => ?_
  have hlow : y.toNat % 2 ^ t < 2 ^ t := Nat.mod_lt _ (Nat.two_pow_pos t)
  rw [Nat.mul_comm, BitVec.getLsbD_ofNat, Nat.testBit_two_pow_mul_add _ hlow, Nat.testBit_div_two_pow,
    Nat.testBit_mod_two_pow, BitVec.getLsbD_or, BitVec.getLsbD_and, BitVec.getLsbD_and, BitVec.getLsbD_not,
    BitVec.getLsbD_ofNat, Nat.testBit_two_pow_sub_one]
  by_cases ht : i < t
  · simp [hi, ht, BitVec.getLsbD]
  · have hge : i - t + t = i := by omega
    simp [hi, ht, BitVec.getLsbD, hge]

/-- The physical address: the frame cut to the page size (D20), plus the offset in the page. -/
theorem pageAddress_eq {m : BitVec 12} (h : legalMask m = true) (pfn : BitVec 24) (va : DWord) :
    ((pfn.setWidth 36 <<< 12) &&& ~~~ offsetMask m) ||| (va.setWidth 36 &&& offsetMask m) =
      BitVec.ofNat 36 (pfn.toNat * 4096 / (4096 * (m.toNat + 1)) * (4096 * (m.toNat + 1)) +
        va.toNat % (4096 * (m.toNat + 1))) := by
  obtain ⟨t, ht, hsize, hoff⟩ := legalMask_page h
  have hframe : (pfn.setWidth 36 <<< 12).toNat = pfn.toNat * 4096 := by
    have hp := pfn.isLt
    rw [BitVec.toNat_shiftLeft, BitVec.toNat_setWidth, Nat.shiftLeft_eq]; omega
  have hva : (va.setWidth 36).toNat % 2 ^ t = va.toNat % 2 ^ t := by
    rw [BitVec.toNat_setWidth, Nat.mod_mod_of_dvd _ (Nat.pow_dvd_pow 2 (by omega))]
  rw [hoff, splice_low, hframe, hva, hsize]

/-- The translation through one entry, by the V and D bits of the selected page (21_mmu_tlb R210 steps 4 and 5). -/
theorem entryTranslate_eq {k : AccessKind} {va : DWord} {e : TlbEntry} (h : legalMask e.mask = true) {half : TlbHalf}
    (hhalf : (if va.toNat / (4096 * (e.mask.toNat + 1)) % 2 = 1 then e.lo1 else e.lo0) = half) :
    e.translate k va =
      if half.v = false then .exc (.tlbInvalid va k.isStore)
      else if k = .store ∧ half.d = false then .exc (.tlbModified va)
      else .ok (BitVec.ofNat 36 (half.pfn.toNat * 4096 / (4096 * (e.mask.toNat + 1)) * (4096 * (e.mask.toNat + 1)) +
        va.toNat % (4096 * (e.mask.toNat + 1)))) (attrOf half.c) := by
  simp only [TlbEntry.translate, oddPage_iff h, hhalf, pageAddress_eq h, Bool.not_eq_true', AccessKind.isStore,
    Bool.and_eq_true, beq_iff_eq]

/-! ### The statement -/

/-- Settles O60: the segment equations give the unmapped and illegal addresses, the tables the mapped ones, and the
lookup with the page arithmetic what a mapped address becomes. -/
theorem translation : Obligations.Translation := by
  intro s k va h st mode v attr found within unmappedUser mapped illegal
  refine ⟨fun hm hv => ?_, fun hm hv => ?_, fun hm hx hv => ?_, fun ⟨hm, he, hv⟩ => ?_, fun e he hw => ?_,
    fun e he hw hu hlegal => ?_⟩
  · have htop : 0xFFFFFFFF80000000 ≤ v := by omega
    exact translate_unmapped h (by rw [calmSegment_compat hm htop, segCompat_eq _ htop, if_pos hv])
  · have htop : 0xFFFFFFFF80000000 ≤ v := by omega
    exact translate_unmapped h
      (by rw [calmSegment_compat hm htop, segCompat_eq _ htop, if_neg (by omega), if_pos hv])
  · have hphys := calmSegment_xkphys hm hx hv
    split <;> rename_i hzero
    · exact translate_unmapped h (hphys.trans (if_pos hzero))
    · exact translate_illegal h (hphys.trans (if_neg hzero))
  · exact translate_unmapped h (calmSegment_errorLevel hm he hv)
  · exact translate_illegal h (calmSegment_illegal e he hw)
  · rw [translate_mapped h (calmSegment_mapped hu e he hw)]
    refine ⟨fun hnone => ?_, fun i hi hone => ?_⟩
    · exact translateMapped_none h hlegal fun i hi => hnone i ((hits_iff _ _ _).mp hi)
    · intro size half
      rw [translateMapped_one h hlegal ((hits_iff _ _ _).mpr hi) fun j hj => hone j ((hits_iff _ _ _).mp hj),
        entryTranslate_eq (half := half) (hlegal i) rfl]
      refine ⟨fun hv => if_pos hv, fun hv hd hk => ?_, fun hv hd => ?_⟩
      · rw [if_neg (by simp [hv]), if_pos ⟨hk, hd⟩]
      · have hwritable : ¬ (k = .store ∧ half.d = false) := fun ⟨hk, hd'⟩ =>
          hd.elim (fun hd => Bool.false_ne_true (hd'.symm.trans hd)) (absurd hk)
        rw [if_neg (by simp [hv]), if_neg hwritable]
        rfl

end Sys2Proof.Proofs

/-! ## Proofs: every step keeps memory and the caches in canonical form (O8) -/

namespace Sys2Proof.Proofs
open Sys2Proof.Machine

/-! ### Memory -/

/-- Writes by other bus masters keep the canonical form. -/
theorem storeEach_wf {m : List Host.Cell} (h : Memory.wf m = true) (l : List (PAddr × Byte)) :
    Memory.wf (storeEach m l) = true :=
  List.foldlRecOn (motive := fun m => Memory.wf m = true) _ _ h fun _ hm p _ => memory_write_wf hm _ p.2

/-! ### Keys of the sparse maps -/

/-- A write brings no key but its own. -/
theorem mem_sparsePut {α : Type} [DecidableEq α] {dflt : α} {m : List (Nat × α)} {k : Nat} {v : α} {p : Nat × α}
    (h : p ∈ sparsePut dflt m k v) : p.1 = k ∨ p ∈ m := by
  induction m with
  | nil =>
    unfold sparsePut at h
    split at h
    · cases h
    · exact .inl (by rw [List.mem_singleton.mp h])
  | cons q m ih =>
    unfold sparsePut at h
    split_ifs at h
    · exact .inr h
    · exact (List.mem_cons.mp h).imp_left fun e => by rw [e]
    · exact .inr (List.mem_cons_of_mem _ h)
    · exact (List.mem_cons.mp h).imp (fun e => by rw [e]) (List.mem_cons_of_mem _)
    · rcases List.mem_cons.mp h with rfl | h
      · exact .inr (List.mem_cons_self ..)
      · exact (ih h).imp_right (List.mem_cons_of_mem _)

/-- A canonical sparse map all of whose keys are below 512: how a cache is held (22_caches R230, R231). -/
def CacheWf {α : Type} [DecidableEq α] (dflt : α) (m : List (Nat × α)) : Prop :=
  sparseWf dflt m = true ∧ ∀ p ∈ m, p.1 < 512

theorem cacheWf_nil {α : Type} [DecidableEq α] (dflt : α) : CacheWf dflt [] :=
  ⟨rfl, fun _ hp => absurd hp List.not_mem_nil⟩

theorem CacheWf.put {α : Type} [DecidableEq α] {dflt : α} {m : List (Nat × α)} {i : Nat} (h : CacheWf dflt m)
    (hi : i < 512) (v : α) : CacheWf dflt (sparsePut dflt m i v) := by
  obtain ⟨hwf, hkeys⟩ := h
  refine ⟨sparseWf_put _ hwf i v, fun p hp => ?_⟩
  rcases mem_sparsePut hp with rfl | hp
  · exact hi
  · exact hkeys p hp

/-! ### The invariant -/

/-- The lines that the entries of a write buffer came from are among the 512 of their caches. -/
def SlotsInRange (l : List WEntry) : Prop := ∀ e ∈ l, ∀ p ∈ e.slot, p.2 < 512

section
variable {s t : State}

theorem linesInRange_none : LinesInRange none := fun _ hw => absurd hw (Option.not_mem_none _)

theorem slotsInRange_nil : SlotsInRange [] := fun _ he => absurd he List.not_mem_nil

/-- The canonical form, one part for each field it speaks of. -/
theorem memoryWf_iff (s : State) : s.memoryWf ↔ Memory.wf s.mem = true ∧ CacheWf DLine.zero s.dcache ∧
    CacheWf ILine.zero s.icache ∧ LinesInRange s.busWait ∧ SlotsInRange s.wbuf := by
  unfold State.memoryWf CacheWf LinesInRange SlotsInRange
  tauto

/-- The part of the state `State.memoryWf` speaks of. -/
def memoryPart (s : State) := (s.mem, s.dcache, s.icache, s.busWait, s.wbuf)

theorem memoryWf_of_part (h : s.memoryWf) (e : memoryPart t = memoryPart s) : t.memoryWf := by
  simp only [memoryPart, Prod.mk.injEq] at e
  obtain ⟨hm, hd, hi, hb, hw⟩ := e
  unfold State.memoryWf
  rw [hm, hd, hi, hb, hw]
  exact h

theorem memoryPart_of_tracked (e : tracked t = tracked s) : memoryPart t = memoryPart s := by
  simp only [tracked, Prod.mk.injEq] at e
  obtain ⟨-, -, -, -, hi, hd, hw, hm, hb, -⟩ := e
  simp only [memoryPart, hi, hd, hw, hm, hb]

theorem putMem_memoryWf {m : List Host.Cell} (hm : Memory.wf m = true) (h : s.memoryWf) :
    State.memoryWf { s with mem := m } := by
  obtain ⟨-, rest⟩ := h
  exact ⟨hm, rest⟩

theorem putWbuf_memoryWf {l : List WEntry} (hl : SlotsInRange l) (h : s.memoryWf) :
    State.memoryWf { s with wbuf := l } := by
  obtain ⟨hm, hd, hi, hdk, hik, hb, -⟩ := h
  exact ⟨hm, hd, hi, hdk, hik, hb, hl⟩

theorem putBusWait_memoryWf {b : Option BusWait} (hb : LinesInRange s.busWait → LinesInRange b) (h : s.memoryWf) :
    State.memoryWf { s with busWait := b } := by
  obtain ⟨hm, hd, hi, hdk, hik, hold, hw⟩ := h
  exact ⟨hm, hd, hi, hdk, hik, hb hold, hw⟩

theorem putDline_memoryWf {i : Nat} (l : DLine) (hi : i < 512) (h : s.memoryWf) : (s.putDline i l).memoryWf := by
  obtain ⟨hm, hd, hrest⟩ := (memoryWf_iff s).mp h
  exact (memoryWf_iff _).mpr ⟨hm, hd.put hi l, hrest⟩

theorem putIline_memoryWf {i : Nat} (l : ILine) (hi : i < 512) (h : s.memoryWf) : (s.putIline i l).memoryWf := by
  obtain ⟨hm, hd, hc, hrest⟩ := (memoryWf_iff s).mp h
  exact (memoryWf_iff _).mpr ⟨hm, hd, hc.put hi l, hrest⟩

/-! ### Exceptions and resets -/

theorem excRegs_memoryPart (s : State) (e : Exc) : memoryPart (s.excRegs e) = memoryPart s := by
  cases e <;> rfl

theorem raise_memoryPart (s : State) (e : Exc) : memoryPart (s.raise e) = memoryPart s := excRegs_memoryPart s e

/-- A TLB write changes the TLB and the record of late writes. -/
theorem tlbWrite_rest (s : State) (i : BitVec 6) :
    s.tlbWrite i = { s with tlb := (s.tlbWrite i).tlb, hist := (s.tlbWrite i).hist } := by
  unfold State.tlbWrite
  split <;> rfl

theorem eret_memoryPart (s : State) : memoryPart s.eret = memoryPart s := by
  unfold memoryPart State.eret
  dsimp only
  split <;> rfl

theorem abortedMem_wf (h : s.memoryWf) : Memory.wf s.abortedMem = true := by
  obtain ⟨hm, -⟩ := h
  refine List.foldlRecOn (motive := fun m => Memory.wf m = true) _ _ hm fun m hm p _ => ?_
  split
  · exact wentry_apply_wf _ hm _
  · exact hm

/-- The lines a reset aborts are among the 512 of each cache. -/
theorem busyLines_lt (h : s.memoryWf) {p : Bool × Nat} (hp : p ∈ s.busyLines) : p.2 < 512 := by
  obtain ⟨-, -, -, -, -, hwait, hslots⟩ := h
  rcases List.mem_append.mp hp with hp | hp
  · obtain ⟨w, hw, hl⟩ := Option.bind_eq_some_iff.mp (Option.mem_toList.mp hp)
    exact hwait w hw p hl
  · obtain ⟨e, he, hl⟩ := List.mem_filterMap.mp hp
    exact hslots e he p hl

theorem abortLine_memoryWf (instr : Bool) {i : Nat} (hi : i < 512) (h : s.memoryWf) :
    (s.abortLine instr i).memoryWf := by
  cases instr
  · exact putDline_memoryWf _ hi h
  · exact putIline_memoryWf _ hi h

theorem abortLines_memoryWf (h : s.memoryWf) : s.abortLines.memoryWf :=
  List.foldlRecOn (motive := State.memoryWf) _ _ h fun _ hu p hp => abortLine_memoryWf p.1 (busyLines_lt h hp) hu

theorem softReset_memoryWf (h : s.memoryWf) : s.softReset.memoryWf := by
  obtain ⟨-, hd, hc, -, -⟩ := (memoryWf_iff _).mp (abortLines_memoryWf h)
  exact (memoryWf_iff _).mpr ⟨abortedMem_wf h, hd, hc, linesInRange_none, slotsInRange_nil⟩

/-- Reset empties the caches and the write buffer (70_reset_and_hazards R830). -/
theorem coldReset_memoryWf (st : BitVec 256) (h : s.memoryWf) : Leaves State.memoryWf (s.coldReset st) := by
  unfold State.coldReset
  split
  · exact (memoryWf_iff _).mpr ⟨abortedMem_wf h, cacheWf_nil _, cacheWf_nil _,
      linesInRange_none, slotsInRange_nil⟩
  · trivial

/-! ### The write buffer -/

theorem issue_memoryWf (r : BusReq) (h : s.memoryWf) : (s.issue r).memoryWf := by
  have ⟨hm, _⟩ := h
  exact putMem_memoryWf (storeEach_wf hm _) h

theorem applied_memoryWf (e : WEntry) (h : s.memoryWf) :
    State.memoryWf { s with mem := e.apply s.cfg.bigEndian s.mem } := by
  have ⟨hm, _⟩ := h
  exact putMem_memoryWf (wentry_apply_wf _ hm e) h

theorem headLeft_memoryWf {e : WEntry} {l : List WEntry} (hw : s.wbuf = e :: l) (h : s.memoryWf) :
    State.memoryWf { s with wbuf := l } := by
  obtain ⟨-, -, -, -, hslots⟩ := (memoryWf_iff s).mp h
  rw [hw] at hslots
  exact putWbuf_memoryWf (fun x hx => hslots x (List.mem_cons_of_mem e hx)) h

theorem sendWrite_memoryWf (e : WEntry) (h : s.memoryWf) : ResLeaves State.memoryWf (s.sendWrite e) := by
  have hi := issue_memoryWf (s.requestOf e) h
  unfold State.sendWrite
  dsimp only
  split
  · trivial
  · split
    · exact applied_memoryWf e hi
    · exact hi

/-- A store adds a word, which came from no cache line. -/
theorem pushWrite_memoryWf (pa : PAddr) (n : Nat) (d : DWord) (h : s.memoryWf) :
    ResLeaves State.memoryWf (s.pushWrite pa n d) := by
  refine ResLeaves.bind ?_ fun _ u _ hu => ?_
  · split
    · unfold State.drainHead
      split
      · exact h
      · exact sendWrite_memoryWf _ (headLeft_memoryWf ‹_› h)
    · exact h
  · obtain ⟨-, -, -, -, hslots⟩ := (memoryWf_iff u).mp hu
    refine putWbuf_memoryWf (s := u.noteCode pa n) (fun e he p hp => ?_) hu
    rcases List.mem_append.mp he with he | he
    · exact hslots e he p hp
    · rw [List.mem_singleton.mp he] at hp
      cases hp

/-- Every operation of the model keeps the canonical form. -/
theorem memoryWf_kept : KeptByOps State.memoryWf where
  frame h e := memoryWf_of_part h (memoryPart_of_tracked e)
  writeGpr r v h := by rw [writeGpr_rest]; exact h
  cp0Set r v h := by rw [cp0Set_eq]; exact h
  stepRandom h := h
  setCH _ h := h
  linkAddr _ h := h
  loadedTag _ _ h := h
  counted _ h := h
  fcr31 _ _ h := h
  probed h := h
  tlbRead h := h
  tlbWrite i h := by rw [tlbWrite_rest]; exact h
  raise e h := memoryWf_of_part h (raise_memoryPart _ e)
  raiseCacheError _ h := h
  killedFetch u k _ ht := by rw [killedFetch_rest]; exact ht
  eret h := memoryWf_of_part h (eret_memoryPart _)
  softEntry h := h
  softReset := softReset_memoryWf
  coldReset := coldReset_memoryWf
  issue := issue_memoryWf
  applied := applied_memoryWf
  wroteByte a v h := putMem_memoryWf (memory_write_wf h.1 a v) h
  emptied h := putWbuf_memoryWf slotsInRange_nil h
  headLeft := headLeft_memoryWf
  pushWrite := pushWrite_memoryWf
  lineQueued _ _ _ _ _ hslot h := putWbuf_memoryWf (fun e he p hp => by
    rw [List.mem_singleton.mp he] at hp
    cases hp
    exact hslot) h
  putDline := putDline_memoryWf
  putIline := putIline_memoryWf
  busWait _ hb h := putBusWait_memoryWf hb h

end

/-- Settles O8: each operation of the model keeps the canonical form, so every step does. -/
theorem stepKeepsMemoryForm : Obligations.StepKeepsMemoryForm := by
  intro s t h hst
  exact leaves_next (memoryWf_kept.step h) hst

end Sys2Proof.Proofs

/-! ## Proofs: the bytes of an aligned datum

Where the bytes of an aligned datum lie in memory, and in which lanes of its doubleword, in every combination of the
two byte orders (20_memory R141 to R143). -/

namespace Sys2Proof.Proofs
open Sys2Proof.Machine

/-! ### Effective addresses -/

/-- The effective address as the model computes it. -/
theorem address_eq_ea (s : State) (base : Reg) (offset : BitVec 16) : s.address base offset = s.ea base offset := by
  rw [State.address, BitVec.ofInt_add, BitVec.ofInt_toInt]
  rfl

/-! ### The address sent to memory -/

/-- The sizes of an aligned datum (40_loads_stores R310). -/
abbrev dataSizes : List Nat := [1, 2, 4, 8]

/-- An address is aligned if its low three bits are. -/
theorem low3_mod {w n : Nat} (hn : n ∈ dataSizes) (v : BitVec w) : (v.extractLsb' 0 3).toNat % n = v.toNat % n := by
  have hdvd : ∀ n ∈ dataSizes, n ∣ 2 ^ 3 := by decide
  rw [BitVec.extractLsb'_toNat, Nat.shiftRight_zero, Nat.mod_mod_of_dvd _ (hdvd n hn)]

/-- Equal offsets in a page have equal low bits. -/
theorem low3_of_page {va : DWord} {pa : PAddr} (hoff : pa.toNat % 4096 = va.toNat % 4096) :
    pa.extractLsb' 0 3 = va.extractLsb' 0 3 := by
  refine BitVec.eq_of_toNat_eq ?_
  simp only [BitVec.extractLsb'_toNat, Nat.shiftRight_zero]
  omega

/-- A translation keeps the alignment of a datum. -/
theorem aligned_of_page {n : Nat} (hn : n ∈ dataSizes) {va : DWord} {pa : PAddr} (hva : va.toNat % n = 0)
    (hoff : pa.toNat % 4096 = va.toNat % 4096) : pa.toNat % n = 0 := by
  rw [← low3_mod hn pa, low3_of_page hoff, low3_mod hn va, hva]

/-- An exclusive or with the low three bits of an address stays inside its doubleword. -/
theorem toNat_xor_low3 (pa : PAddr) (c : BitVec 3) :
    (pa ^^^ c.setWidth 36).toNat = pa.toNat / 8 * 8 + (pa.extractLsb' 0 3 ^^^ c).toNat := by
  have hsplit : pa ^^^ c.setWidth 36 = pa.extractLsb' 3 33 ++ (pa.extractLsb' 0 3 ^^^ c) := by
    refine BitVec.eq_of_getLsbD_eq fun i hi => ?_
    rw [BitVec.getLsbD_append, BitVec.getLsbD_xor, BitVec.getLsbD_setWidth]
    by_cases h : i < 3
    · simp [h, hi]
    · have hadd : 3 + (i - 3) = i := by omega
      simp [h, hadd, show i - 3 < 33 by omega, BitVec.getLsbD_of_ge c i (by omega)]
  rw [hsplit, BitVec.toNat_append, ← Nat.shiftLeft_add_eq_or_of_lt (BitVec.isLt _), Nat.shiftLeft_eq,
    BitVec.extractLsb'_toNat, Nat.shiftRight_eq_div_pow, Nat.mod_eq_of_lt (by omega)]

/-- The address sent to memory: the doubleword of the datum, its place in it turned round by Status.RE. -/
theorem toNat_busAddr (r : Bool) (pa : PAddr) (n : Nat) :
    (busAddr r pa n).toNat = pa.toNat / 8 * 8 + (pa.extractLsb' 0 3 ^^^ (if r then laneMask n else 0)).toNat := by
  have hmask : (if r then (laneMask n).setWidth 36 else 0) = (if r then laneMask n else 0).setWidth 36 := by
    cases r <;> rfl
  rw [busAddr, hmask, toNat_xor_low3]

theorem busAddr_div8 (r : Bool) (pa : PAddr) (n : Nat) : (busAddr r pa n).toNat / 8 = pa.toNat / 8 := by
  rw [toNat_busAddr]
  have := (pa.extractLsb' 0 3 ^^^ (if r then laneMask n else 0)).isLt
  omega

/-- Nothing above the low three bits of an address changes: fields there are as before. -/
theorem extract_busAddr (r : Bool) (pa : PAddr) (n : Nat) {i : Nat} (hi : 3 ≤ i) (m : Nat) :
    (busAddr r pa n).extractLsb' i m = pa.extractLsb' i m := by
  have hpow : 2 ^ i = 8 * 2 ^ (i - 3) := by
    rw [show (8 : Nat) = 2 ^ 3 by rfl, ← Nat.pow_add, show 3 + (i - 3) = i by omega]
  rw [BitVec.toNat_eq, BitVec.extractLsb'_toNat, BitVec.extractLsb'_toNat, Nat.shiftRight_eq_div_pow,
    Nat.shiftRight_eq_div_pow, hpow, ← Nat.div_div_eq_div_mul, ← Nat.div_div_eq_div_mul, busAddr_div8]

theorem tagOf_busAddr (r : Bool) (pa : PAddr) (n : Nat) : tagOf (busAddr r pa n) = tagOf pa :=
  extract_busAddr r pa n (by decide) 24

theorem dwordAddr_busAddr (r : Bool) (pa : PAddr) (n : Nat) : dwordAddr (busAddr r pa n) = dwordAddr pa := by
  rw [dwordAddr, extract_busAddr r pa n (by decide), dwordAddr]

/-- The doubleword of its line that an address selects. -/
theorem toNat_lineDword (pa : PAddr) : (pa.extractLsb' 3 2).toNat = pa.toNat / 8 % 4 := by
  rw [BitVec.extractLsb'_toNat, Nat.shiftRight_eq_div_pow]

/-- The tag of an address is its page number. -/
theorem toNat_tagOf (pa : PAddr) : (tagOf pa).toNat = pa.toNat / 4096 := by
  have := pa.isLt
  rw [tagOf, BitVec.extractLsb'_toNat, Nat.shiftRight_eq_div_pow]
  omega

/-- A translation keeps the offset in the smallest page (21_mmu_tlb R207). -/
theorem mod_page_of_maps {s : State} {k : AccessKind} {va : DWord} {pa : PAddr} {attr : BitVec 3}
    (h : s.maps k va pa attr) : pa.toNat % 4096 = va.toNat % 4096 := by
  obtain ⟨-, hoff⟩ := h
  simpa [BitVec.extractLsb'_toNat] using congrArg BitVec.toNat hoff

/-! ### Byte `k` of the datum -/

/-- The place of byte `k` of a datum of `n` bytes, 0 for the least significant. -/
def bytePlace (be : Bool) (n k : Nat) : Nat := if be then n - 1 - k else k

theorem bytePlace_lt {be : Bool} {n k : Nat} (hk : k < n) : bytePlace be n k < n := by
  unfold bytePlace; split <;> omega

theorem bytePlace_bytePlace {be : Bool} {n k : Nat} (hk : k < n) : bytePlace be n (bytePlace be n k) = k := by
  unfold bytePlace; split <;> omega

section
variable {s : State} {va : DWord} {pa : PAddr} {n : Nat}

/-- The low three bits of an address `k` places on inside an aligned datum. -/
theorem low3_add (hn : n ∈ dataSizes) (hpa : pa.toNat % n = 0) {k : Nat} (hk : k < n) :
    (pa + BitVec.ofNat 36 k).toNat / 8 = pa.toNat / 8 ∧
      (pa + BitVec.ofNat 36 k).extractLsb' 0 3 = pa.extractLsb' 0 3 + BitVec.ofNat 3 k := by
  have hlt := pa.isLt
  have hroom : pa.toNat % 8 + k < 8 := by
    simp only [List.mem_cons, List.not_mem_nil, or_false] at hn
    rcases hn with rfl | rfl | rfl | rfl <;> omega
  have hsum : (pa + BitVec.ofNat 36 k).toNat = pa.toNat + k := by
    rw [BitVec.toNat_add, BitVec.toNat_ofNat]
    omega
  refine ⟨by rw [hsum]; omega, BitVec.eq_of_toNat_eq ?_⟩
  rw [BitVec.extractLsb'_toNat, hsum, BitVec.toNat_add, BitVec.extractLsb'_toNat, BitVec.toNat_ofNat]
  simp only [Nat.shiftRight_zero]
  omega

/-- Where byte `k` of an aligned datum lies: turned round by Status.RE among the bytes sent to memory. -/
theorem byteAddr_eq (hn : n ∈ dataSizes) (hpa : pa.toNat % n = 0) {k : Nat} (hk : k < n) :
    s.byteAddr pa k = (busAddr s.reverseEndian pa n).toNat + bytePlace s.reverseEndian n k := by
  have turn : ∀ n ∈ dataSizes, ∀ x : BitVec 3, x.toNat % n = 0 → ∀ k < n, ∀ r : Bool,
      (x + BitVec.ofNat 3 k ^^^ (if r then laneMask 1 else 0)).toNat =
        (x ^^^ (if r then laneMask n else 0)).toNat + bytePlace r n k := by decide
  have hx : (pa.extractLsb' 0 3).toNat % n = 0 := (low3_mod hn pa).trans hpa
  obtain ⟨hdiv, hlow⟩ := low3_add hn hpa hk
  rw [State.byteAddr, toNat_busAddr, hdiv, hlow, turn n hn _ hx k hk, toNat_busAddr, Nat.add_assoc]

/-- The bytes of an aligned datum lie in one doubleword. -/
theorem byteAddr_div8 (hn : n ∈ dataSizes) (hpa : pa.toNat % n = 0) {k : Nat} (hk : k < n) :
    s.byteAddr pa k / 8 = pa.toNat / 8 := by
  rw [State.byteAddr, busAddr_div8, (low3_add hn hpa hk).1]

/-- Their places in the line. -/
theorem byteAddr_mod32 (hn : n ∈ dataSizes) (hpa : pa.toNat % n = 0) {k : Nat} (hk : k < n) :
    s.byteAddr pa k % 32 = 8 * (pa.toNat / 8 % 4) + s.byteAddr pa k % 8 := by
  have := byteAddr_div8 (s := s) hn hpa hk
  omega

/-- The lane of byte `k`: the lanes of the datum begin at `laneAt`, and the processor's byte order says which of them
is byte `k` (20_memory R142, R143). -/
theorem laneOf_byteAddr (hn : n ∈ dataSizes) (hva : va.toNat % n = 0) (hoff : pa.toNat % 4096 = va.toNat % 4096)
    {k : Nat} (hk : k < n) :
    laneOf s.cfg.bigEndian (s.byteAddr pa k % 8) = laneAt s.bigEndianCPU va n + bytePlace s.bigEndianCPU n k := by
  have turn : ∀ n ∈ dataSizes, ∀ x : BitVec 3, x.toNat % n = 0 → ∀ k < n, ∀ r be : Bool,
      laneOf be (x + BitVec.ofNat 3 k ^^^ (if r then laneMask 1 else 0)).toNat =
        (x ^^^ (if be ^^ r then laneMask n else 0)).toNat + bytePlace (be ^^ r) n k := by decide
  have hlow := low3_of_page hoff
  have hpa := aligned_of_page hn hva hoff
  have hx : (pa.extractLsb' 0 3).toNat % n = 0 := (low3_mod hn pa).trans hpa
  have hbyte : s.byteAddr pa k % 8 =
      (pa.extractLsb' 0 3 + BitVec.ofNat 3 k ^^^ (if s.reverseEndian then laneMask 1 else 0)).toNat := by
    rw [State.byteAddr, toNat_busAddr, (low3_add hn hpa hk).2, Nat.mul_add_mod', Nat.mod_eq_of_lt (BitVec.isLt _)]
  rw [hbyte, turn n hn _ hx k hk, hlow, laneAt, State.bigEndianCPU]

/-- The datum lies inside its doubleword. -/
theorem laneAt_le (hn : n ∈ dataSizes) (hva : va.toNat % n = 0) (be : Bool) : laneAt be va n + n ≤ 8 := by
  have inside : ∀ n ∈ dataSizes, ∀ x : BitVec 3, x.toNat % n = 0 → ∀ be : Bool,
      (x ^^^ (if be then laneMask n else 0)).toNat + n ≤ 8 := by decide
  exact inside n hn _ ((low3_mod hn va).trans hva) be

/-! ### The value of a datum -/

/-- A byte of a doubleword is a digit of its number to base 256. -/
theorem toNat_lane (d : DWord) (j : Nat) : (lane d j).toNat = d.toNat / 256 ^ j % 256 := by
  rw [lane, BitVec.extractLsb'_toNat, Nat.shiftRight_eq_div_pow, Nat.pow_mul]

/-- The low `n` bytes of the doubleword of an aligned datum, shifted to the datum's first lane, are the number the
bytes at its addresses spell in the processor's byte order. -/
theorem toNat_datum (hn : n ∈ dataSizes) (hva : va.toNat % n = 0) (hoff : pa.toNat % 4096 = va.toNat % 4096)
    {d : DWord} {f : Nat → Byte} (hf : ∀ k < n, f k = lane d (laneOf s.cfg.bigEndian (s.byteAddr pa k % 8))) :
    (d >>> (8 * laneAt s.bigEndianCPU va n)).toNat % 256 ^ n = bytesValue s.bigEndianCPU f n := by
  refine (bytesValue_digits fun k hk => ?_).symm
  rw [hf k hk, laneOf_byteAddr hn hva hoff hk, toNat_lane, BitVec.toNat_ushiftRight, Nat.shiftRight_eq_div_pow,
    Nat.pow_mul, Nat.div_div_eq_div_mul, ← Nat.pow_add]
  rfl

/-- Byte `k` of a register that a store puts into its lanes. -/
theorem lane_shifted (hn : n ∈ dataSizes) (hva : va.toNat % n = 0) (hoff : pa.toNat % 4096 = va.toNat % 4096)
    (v : DWord) {k : Nat} (hk : k < n) :
    lane (v <<< (8 * laneAt s.bigEndianCPU va n)) (laneOf s.cfg.bigEndian (s.byteAddr pa k % 8)) =
      storedByte s.bigEndianCPU v n k := by
  have hin := laneAt_le hn hva s.bigEndianCPU
  have hplace := bytePlace_lt (be := s.bigEndianCPU) hk
  rw [laneOf_byteAddr hn hva hoff hk]
  refine BitVec.eq_of_getLsbD_eq fun i hi => ?_
  unfold lane storedByte
  have hlow : 8 * (laneAt s.bigEndianCPU va n + bytePlace s.bigEndianCPU n k) + i < 64 := by omega
  have hsub : 8 * (laneAt s.bigEndianCPU va n + bytePlace s.bigEndianCPU n k) + i - 8 * laneAt s.bigEndianCPU va n =
      8 * bytePlace s.bigEndianCPU n k + i := by omega
  have hge : ¬ 8 * (laneAt s.bigEndianCPU va n + bytePlace s.bigEndianCPU n k) + i <
      8 * laneAt s.bigEndianCPU va n := by omega
  rw [BitVec.getLsbD_extractLsb', BitVec.getLsbD_extractLsb', BitVec.getLsbD_shiftLeft, hsub]
  simp only [hi, hlow, hge, decide_true, decide_false, Bool.not_false, Bool.true_and]
  rfl

end

/-! ### The aligned loads and stores -/

/-- The low `n` bytes of a datum, sign-extended, as a number. -/
theorem signed_eq (n : Nat) (d : DWord) : signed n d = extended true n (d.toNat % 256 ^ n) := by
  have hpow : 2 ^ (8 * n) = 256 ^ n := Nat.pow_mul 2 8 n
  have hint : (d.setWidth (8 * n)).toInt = ((d.toNat % 256 ^ n : Nat) : Int).bmod (2 ^ (8 * n)) := by
    rw [BitVec.toInt_setWidth, hpow, Int.natCast_emod, Int.emod_bmod]
  exact congrArg (BitVec.ofInt 64) hint

/-- The low `n` bytes of a datum, zero-extended, as a number. -/
theorem unsigned_eq (n : Nat) (d : DWord) : unsigned n d = extended false n (d.toNat % 256 ^ n) := by
  have hpow : 2 ^ (8 * n) = 256 ^ n := Nat.pow_mul 2 8 n
  refine BitVec.eq_of_toNat_eq ?_
  simp only [unsigned, zext64, extended, BitVec.toNat_setWidth, BitVec.toNat_ofNat, hpow, Bool.false_eq_true, if_false]

theorem doubleword_eq (d : DWord) : d = extended false 8 (d.toNat % 256 ^ 8) := by
  refine BitVec.eq_of_toNat_eq ?_
  have := d.isLt
  simp only [extended, BitVec.toNat_ofNat, Bool.false_eq_true, if_false]
  omega

section
variable {s : State} {base rt : Reg} {offset : BitVec 16}

theorem alignedLoads_size {e : Instr × Nat × Bool × Bool} (he : e ∈ alignedLoads base rt offset) :
    e.2.1 ∈ dataSizes := by
  have sizes : (alignedLoads base rt offset).map (·.2.1) ⊆ dataSizes := by simp [alignedLoads]
  exact sizes (List.mem_map_of_mem he)

theorem alignedStores_size {e : Instr × Nat × Bool} (he : e ∈ alignedStores base rt offset) :
    e.2.1 ∈ dataSizes := by
  have sizes : (alignedStores base rt offset).map (·.2.1) ⊆ dataSizes := by simp [alignedStores]
  exact sizes (List.mem_map_of_mem he)

/-- An aligned load extends the low bytes of its datum as its row of the table says. -/
theorem exec_alignedLoad {e : Instr × Nat × Bool × Bool} (he : e ∈ alignedLoads base rt offset)
    (h64 : e.2.2.2 = true → s.ops64Enabled = true) :
    exec e.1 s = s.loadTo base rt offset e.2.1 fun d => extended e.2.2.1 e.2.1 (d.toNat % 256 ^ e.2.1) := by
  have hs : ∀ n, (fun d : DWord => extended true n (d.toNat % 256 ^ n)) = signed n := fun n =>
    funext fun d => (signed_eq n d).symm
  have hu : ∀ n, (fun d : DWord => extended false n (d.toNat % 256 ^ n)) = unsigned n := fun n =>
    funext fun d => (unsigned_eq n d).symm
  have hd : (fun d : DWord => extended false 8 (d.toNat % 256 ^ 8)) = id := funext fun d => (doubleword_eq d).symm
  simp only [alignedLoads, List.mem_cons, List.not_mem_nil, or_false] at he
  rcases he with rfl | rfl | rfl | rfl | rfl | rfl | rfl
  · rw [hs]; rfl
  · rw [hu]; rfl
  · rw [hs]; rfl
  · rw [hu]; rfl
  · rw [hs]; rfl
  · rw [hu]; exact needs64_enabled (h64 rfl) _
  · rw [hd]; exact needs64_enabled (h64 rfl) _

/-- An aligned store writes the low bytes of its register. -/
theorem exec_alignedStore {e : Instr × Nat × Bool} (he : e ∈ alignedStores base rt offset)
    (h64 : e.2.2 = true → s.ops64Enabled = true) : exec e.1 s = s.storeFrom base rt offset e.2.1 := by
  simp only [alignedStores, List.mem_cons, List.not_mem_nil, or_false] at he
  rcases he with rfl | rfl | rfl | rfl
  · rfl
  · rfl
  · rfl
  · exact needs64_enabled (h64 rfl) _

/-- A load whose address is aligned and translates goes on with its datum. -/
theorem loadTo_eq {n : Nat} {pa : PAddr} {attr : BitVec 3} (hva : (s.address base offset).toNat % n = 0)
    (hx : s.translate .load (s.address base offset) = .ok pa attr) (ext : DWord → DWord) :
    s.loadTo base rt offset n ext =
      (s.readDatum (s.address base offset) n (pa, attr)).finish fun d s1 => s1.setGpr rt (ext d) := by
  simp only [State.loadTo, State.loadDatum, State.reference, ← address_eq_ea, aligned_of_mod hva, xlate_of_translate hx,
    Res.bind]

/-- A store whose address is aligned and translates goes on with its datum. -/
theorem storeFrom_eq {n : Nat} {pa : PAddr} {attr : BitVec 3} (hva : (s.address base offset).toNat % n = 0)
    (hx : s.translate .store (s.address base offset) = .ok pa attr) :
    s.storeFrom base rt offset n =
      (s.writeDatum (s.address base offset) n (s.readGpr rt) (pa, attr)).finish fun _ s1 => s1.done := by
  simp only [State.storeFrom, State.storeDatum, State.reference, ← address_eq_ea, aligned_of_mod hva,
    xlate_of_translate hx, Res.bind]

end

end Sys2Proof.Proofs

/-! ## Proofs: the aligned loads that hit the data cache (O26) -/

namespace Sys2Proof.Proofs
open Sys2Proof.Machine

section
variable {s : State} {va : DWord} {pa : PAddr} {i : Nat}

/-- The parity error of a line that a reference to `pa` finds bad (60_exceptions R714 (b)); `at_` is the address it
reports. -/
def lineFault (s : State) (va : DWord) (pa at_ : PAddr) (i : Nat) : ParityError :=
  { er := true, ed := !(s.dline i).dwordGood (pa.toNat / 8 % 4), et := !(s.dline i).tagGood, ee := false
    va := va, pa := at_ }

/-- Status.RE does not change which line a reference finds. -/
theorem dLookup_busAddr (s : State) (va : DWord) (r : Bool) (pa : PAddr) (n : Nat) :
    s.dLookup va (busAddr r pa n) = s.dLookup va pa := by
  simp only [State.dLookup, DLine.hits, tagOf_busAddr]

theorem lineError_good (h : s.goodAt i pa) (va : DWord) (r : Bool) (n : Nat) :
    s.lineError va (busAddr r pa n) i = none := by
  obtain ⟨htag, hdata⟩ := h
  simp only [State.lineError, extract_busAddr _ _ _ (Nat.le_refl 3), toNat_lineDword, htag, hdata, Bool.not_true,
    Bool.or_self, Bool.false_eq_true, if_false]

theorem lineError_bad (h : ¬ s.goodAt i pa) (va : DWord) (r : Bool) (n : Nat) :
    s.lineError va (busAddr r pa n) i = some (lineFault s va pa (busAddr r pa n) i) := by
  have hbad : (!(s.dline i).dwordGood (pa.toNat / 8 % 4) || !(s.dline i).tagGood) = true := by
    by_contra hgood
    simp only [Bool.or_eq_true, Bool.not_eq_true', not_or, Bool.not_eq_false] at hgood
    exact h hgood.symm
  simp only [State.lineError, extract_busAddr _ _ _ (Nat.le_refl 3), toNat_lineDword, hbad, if_true]
  rfl

/-- Bad parity ends the reference with the Cache Error exception (60_exceptions R713). -/
theorem checkParity_bad (hde : stDE (s.statusSeen .parityEnable) = false) (p : ParityError) :
    s.checkParity (some p) = .stop (.next (s.raiseCacheError p)) := by
  rw [State.checkParity, State.parityError, hde]
  rfl

theorem readDLine_good (h : s.goodAt i pa) (va : DWord) (r : Bool) (n : Nat) :
    s.readDLine va (busAddr r pa n) i =
      .ok (lineDword s.cfg.bigEndian (s.dline i).data (pa.toNat / 8 % 4)) s := by
  rw [State.readDLine, lineError_good h, extract_busAddr _ _ _ (Nat.le_refl 3), toNat_lineDword]
  rfl

/-- A byte of a doubleword of a line, from its lane. -/
theorem lane_lineDword (be : Bool) (d : LineData) (j : Nat) {m : Nat} (hm : m < 8) :
    lane (lineDword be d j) (laneOf be m) = lineByte d (8 * j + m) := by
  rw [lineDword, lane_memOrder _ _ (laneOf_lt be hm), laneOf_laneOf be hm]
  refine BitVec.eq_of_getLsbD_eq fun i hi => ?_
  unfold lane lineByte
  rw [BitVec.getLsbD_extractLsb', BitVec.getLsbD_extractLsb', BitVec.getLsbD_extractLsb']
  simp only [hi, decide_true, Bool.true_and, show 8 * m + i < 64 by omega]
  congr 1
  omega

/-- The datum of an aligned load is the number its bytes in the line spell. -/
theorem toNat_lineDatum {n : Nat} (hn : n ∈ dataSizes) (hva : va.toNat % n = 0)
    (hoff : pa.toNat % 4096 = va.toNat % 4096) (s : State) (i : Nat) :
    (lineDword s.cfg.bigEndian (s.dline i).data (pa.toNat / 8 % 4) >>> (8 * laneAt s.bigEndianCPU va n)).toNat
      % 256 ^ n = s.lineNumber i pa n := by
  have hpa := aligned_of_page hn hva hoff
  refine toNat_datum hn hva hoff fun k hk => ?_
  rw [lane_lineDword _ _ _ (Nat.mod_lt _ (by decide)), byteAddr_mod32 hn hpa hk]

end

/-- Settles O26: the load takes the doubleword of the line, or its parity error ends the instruction. -/
theorem loadsHit : Obligations.LoadsHit := by
  intro s base rt offset pa attr i e he h64 va hhit
  obtain ⟨hva, hmaps, hattr, hline⟩ := hhit
  have hn := alignedLoads_size he
  have hoff := mod_page_of_maps hmaps
  obtain ⟨hx, -⟩ := hmaps
  have hread : s.memRead va (busAddr s.reverseEndian pa e.2.1) e.2.1 attr =
      s.readDLine va (busAddr s.reverseEndian pa e.2.1) i := by
    simp only [State.memRead, if_neg hattr, State.dFind, dLookup_busAddr, hline, Res.bind]
  rw [State.completes, exec_alignedLoad he h64, loadTo_eq hva hx]
  simp only [State.readDatum]
  rw [hread]
  refine ⟨fun hgood => ?_, fun hbad hde => ?_⟩
  · rw [readDLine_good hgood]
    simp only [Res.bind, Res.finish]
    rw [toNat_lineDatum hn hva hoff]
    exact setGpr_wrote _ _ _
  · rw [State.readDLine, lineError_bad hbad, checkParity_bad hde]
    rfl

end Sys2Proof.Proofs

/-! ## Proofs: stores into a cache line and into the write buffer (O30) -/

namespace Sys2Proof.Proofs
open Sys2Proof.Machine

/-! ### Bytes put into a line -/

/-- A byte of a line after one byte was replaced. -/
theorem lineByte_putLineByte (d : LineData) {k : Nat} (hk : k < 32) (b : Byte) (j : Nat) :
    lineByte (putLineByte d k b) j = if j = k then b else lineByte d j := by
  refine BitVec.eq_of_getLsbD_eq fun i hi => ?_
  have hff : ∀ m, (0xFF : LineData).getLsbD m = decide (m < 8) := fun m => by
    have : (0xFF : LineData) = (BitVec.allOnes 8).setWidth 256 := by decide
    rw [this, BitVec.getLsbD_setWidth, BitVec.getLsbD_allOnes]
    simp only [Bool.and_eq_right_iff_imp, decide_eq_true_eq]
    omega
  unfold lineByte putLineByte
  rw [BitVec.getLsbD_extractLsb']
  simp only [hi, decide_true, Bool.true_and, BitVec.getLsbD_or, BitVec.getLsbD_and, BitVec.getLsbD_not,
    BitVec.getLsbD_shiftLeft, BitVec.getLsbD_setWidth, hff]
  by_cases hj : j = k
  · subst hj
    simp [show 8 * j + i < 256 by omega, show i < 256 by omega, hi]
  · rw [if_neg hj, BitVec.getLsbD_extractLsb']
    by_cases hlow : 8 * j + i < 8 * k
    · simp [hlow, hi]
      exact fun h => BitVec.lt_of_getLsbD h
    · have hout : ¬ 8 * j + i - 8 * k < 8 := by omega
      simp [hlow, hi, hout, BitVec.getLsbD_of_ge b _ (not_lt.mp hout)]
      exact fun h => BitVec.lt_of_getLsbD h

/-- A line with the `n` bytes from offset `base` replaced. -/
def lineStore (base n : Nat) (f : Nat → Byte) (d : LineData) : LineData :=
  (List.range n).foldl (fun d k => putLineByte d (base + k) (f k)) d

/-- The parity bits of a line with those of the `n` bytes from offset `base` replaced. -/
def parityStore (base n : Nat) (f : Nat → Bool) (p : BitVec 32) : BitVec 32 :=
  (List.range n).foldl (fun p k => putBit p (base + k) (f k)) p

theorem lineByte_lineStore {base n : Nat} (f : Nat → Byte) (d : LineData) (h : base + n ≤ 32) (j : Nat) :
    lineByte (lineStore base n f d) j = if base ≤ j ∧ j < base + n then f (j - base) else lineByte d j := by
  induction n with
  | zero => rw [if_neg (by omega)]; rfl
  | succ n ih =>
    have hstep : lineStore base (n + 1) f d = putLineByte (lineStore base n f d) (base + n) (f n) := by
      simp only [lineStore, List.range_succ, List.foldl_append, List.foldl_cons, List.foldl_nil]
    rw [hstep, lineByte_putLineByte _ (by omega), ih (by omega)]
    by_cases hj : j = base + n
    · rw [if_pos hj, if_pos (by omega), hj, Nat.add_sub_cancel_left]
    · rw [if_neg hj]
      exact if_congr (by omega) rfl rfl

theorem getLsbD_parityStore {base n : Nat} (f : Nat → Bool) (p : BitVec 32) (h : base + n ≤ 32) (j : Nat) :
    (parityStore base n f p).getLsbD j = if base ≤ j ∧ j < base + n then f (j - base) else p.getLsbD j := by
  induction n with
  | zero => rw [if_neg (by omega)]; rfl
  | succ n ih =>
    have hstep : parityStore base (n + 1) f p = putBit (parityStore base n f p) (base + n) (f n) := by
      simp only [parityStore, List.range_succ, List.foldl_append, List.foldl_cons, List.foldl_nil]
    rw [hstep, getLsbD_putBit _ (by omega), ih (by omega)]
    by_cases hj : j = base + n
    · rw [if_pos hj, if_pos (by omega), hj, Nat.add_sub_cancel_left]
    · rw [if_neg hj]
      exact if_congr (by omega) rfl rfl

/-- The line a store of `n` bytes to `pa` leaves, its tag, state and W as they were. -/
def writtenLine (s : State) (i : Nat) (pa : PAddr) (n : Nat) (data : DWord) : DLine :=
  { s.dline i with
    data := lineStore (pa.toNat % 32) n (fun k => lane data (laneOf s.cfg.bigEndian (pa.toNat % 8 + k)))
      (s.dline i).data
    par := parityStore (pa.toNat % 32) n (fun k =>
      if stCE (s.statusSeen .forcedParity) then s.cp0.ecc.getLsbD (laneOf s.cfg.bigEndian (pa.toNat % 8 + k))
      else parity (lane data (laneOf s.cfg.bigEndian (pa.toNat % 8 + k)))) (s.dline i).par }

theorem writeDLine_eq (s : State) (i : Nat) (pa : PAddr) (n : Nat) (data : DWord) (back : Bool) :
    s.writeDLine i pa n data back = s.putDline i
      (if back then ((writtenLine s i pa n data).retag (s.dline i).tag 3).setW true
        else writtenLine s i pa n data) := by
  have hfold : ∀ (o : Nat → Nat) (b : Nat → Byte) (p : Nat → Bool) (m : Nat) (l : DLine),
      (List.range m).foldl
          (fun l k => { l with data := putLineByte l.data (o k) (b k), par := putBit l.par (o k) (p k) }) l =
        { l with
          data := (List.range m).foldl (fun d k => putLineByte d (o k) (b k)) l.data
          par := (List.range m).foldl (fun q k => putBit q (o k) (p k)) l.par } := by
    intro o b p m l
    induction m with
    | zero => rfl
    | succ m ih => simp only [List.range_succ, List.foldl_append, List.foldl_cons, List.foldl_nil, ih]
  unfold State.writeDLine
  simp only [hfold]
  rfl

section
variable {s : State} {va : DWord} {pa : PAddr} {n : Nat}

/-- The bytes sent to memory lie in one doubleword. -/
theorem busAddr_room (hn : n ∈ dataSizes) (hpa : pa.toNat % n = 0) (r : Bool) :
    (busAddr r pa n).toNat % 8 + n ≤ 8 := by
  have inside : ∀ n ∈ dataSizes, ∀ x : BitVec 3, x.toNat % n = 0 → ∀ r : Bool,
      (x ^^^ (if r then laneMask n else 0)).toNat + n ≤ 8 := by decide
  rw [toNat_busAddr, Nat.mul_add_mod', Nat.mod_eq_of_lt (BitVec.isLt _)]
  exact inside n hn _ ((low3_mod hn pa).trans hpa) r

/-- The bytes a store puts into a line, at the places the processor's byte order gives them. -/
theorem writtenLine_stored (hn : n ∈ dataSizes) (hva : va.toNat % n = 0) (hoff : pa.toNat % 4096 = va.toNat % 4096)
    (i : Nat) (v : DWord) {k : Nat} (hk : k < n) :
    let l := writtenLine s i (busAddr s.reverseEndian pa n) n (v <<< (8 * laneAt s.bigEndianCPU va n))
    lineByte l.data (s.byteAddr pa k % 32) = storedByte s.bigEndianCPU v n k ∧
      (stCE (s.statusSeen .forcedParity) = false →
        l.par.getLsbD (s.byteAddr pa k % 32) = parity (storedByte s.bigEndianCPU v n k)) := by
  have hpa := aligned_of_page hn hva hoff
  have hroom := busAddr_room hn hpa s.reverseEndian
  have hplace := bytePlace_lt (be := s.reverseEndian) hk
  have haddr := byteAddr_eq (s := s) hn hpa hk
  have hbyte := lane_shifted (s := s) hn hva hoff v hk
  have hin : (busAddr s.reverseEndian pa n).toNat % 32 ≤ s.byteAddr pa k % 32 ∧
      s.byteAddr pa k % 32 < (busAddr s.reverseEndian pa n).toNat % 32 + n := by omega
  have hlane : (busAddr s.reverseEndian pa n).toNat % 8 +
      (s.byteAddr pa k % 32 - (busAddr s.reverseEndian pa n).toNat % 32) = s.byteAddr pa k % 8 := by omega
  dsimp only [writtenLine]
  rw [lineByte_lineStore _ _ (by omega), getLsbD_parityStore _ _ (by omega), if_pos hin, if_pos hin, hlane, hbyte]
  refine ⟨rfl, fun hce => ?_⟩
  rw [hce]
  rfl

/-- An offset that no byte of the datum has lies outside the stored bytes. -/
theorem outside_of_forall_ne (hn : n ∈ dataSizes) (hpa : pa.toNat % n = 0) {a : Nat}
    (ha : ∀ k < n, a ≠ s.byteAddr pa k) :
    a < (busAddr s.reverseEndian pa n).toNat ∨ (busAddr s.reverseEndian pa n).toNat + n ≤ a := by
  by_contra hin
  have hk : bytePlace s.reverseEndian n (a - (busAddr s.reverseEndian pa n).toNat) < n := bytePlace_lt (by omega)
  refine ha _ hk ?_
  rw [byteAddr_eq hn hpa hk, bytePlace_bytePlace (by omega)]
  omega

/-- Every other byte of the line, and its parity, stays. -/
theorem writtenLine_others (hn : n ∈ dataSizes) (hpa : pa.toNat % n = 0) (i : Nat) (data : DWord) {o : Nat}
    (ho : o < 32) (hother : ∀ k < n, o ≠ s.byteAddr pa k % 32) :
    let l := writtenLine s i (busAddr s.reverseEndian pa n) n data
    lineByte l.data o = lineByte (s.dline i).data o ∧ l.par.getLsbD o = (s.dline i).par.getLsbD o := by
  have hroom := busAddr_room hn hpa s.reverseEndian
  have hout := outside_of_forall_ne (a := (busAddr s.reverseEndian pa n).toNat / 32 * 32 + o) hn hpa fun k hk he =>
    hother k hk (by rw [← he]; omega)
  dsimp only [writtenLine]
  rw [lineByte_lineStore _ _ (by omega), getLsbD_parityStore _ _ (by omega), if_neg (by omega), if_neg (by omega)]
  exact ⟨rfl, rfl⟩

/-! ### Bytes stored in memory -/

/-- The bytes a store puts into memory. -/
theorem read_storeLanes {m : List Host.Cell} (hm : Memory.wf m = true) (hn : n ∈ dataSizes) (hva : va.toNat % n = 0)
    (hoff : pa.toNat % 4096 = va.toNat % 4096) (v : DWord) {k : Nat} (hk : k < n) :
    Memory.read (storeLanes s.cfg.bigEndian m (busAddr s.reverseEndian pa n) n
      (v <<< (8 * laneAt s.bigEndianCPU va n))) (s.byteAddr pa k) = storedByte s.bigEndianCPU v n k := by
  have hpa := aligned_of_page hn hva hoff
  have hroom := busAddr_room hn hpa s.reverseEndian
  have hplace := bytePlace_lt (be := s.reverseEndian) hk
  have haddr := byteAddr_eq (s := s) hn hpa hk
  have hlane : (busAddr s.reverseEndian pa n).toNat % 8 + bytePlace s.reverseEndian n k = s.byteAddr pa k % 8 := by
    omega
  rw [← lane_shifted (s := s) hn hva hoff v hk, storeLanes, haddr, storeBytes_read hm _ _ hplace, hlane, haddr]

/-- Every other byte of memory stays. -/
theorem read_storeLanes_other (m : List Host.Cell) (hn : n ∈ dataSizes) (hpa : pa.toNat % n = 0) (be : Bool)
    (d : DWord) {a : Nat} (ha : ∀ k < n, a ≠ s.byteAddr pa k) :
    Memory.read (storeLanes be m (busAddr s.reverseEndian pa n) n d) a = Memory.read m a :=
  storeBytes_read_other m _ _ n (outside_of_forall_ne hn hpa ha)

end

/-! ### The write buffer of a quiet machine -/

section
variable {s : State}

/-- What memory takes. -/
theorem takes_of_kindOf {c : Params} {e : WEntry} (h : c.kindOf e = none) : c.takes e = true := by
  unfold Params.takes Params.storesAt
  rw [show c.kindAt e.addr e.size = none from h]

/-- Memory as it will be is in canonical form if memory is. -/
theorem settledMem_wf (h : Memory.wf s.mem = true) : Memory.wf s.settledMem = true := by
  refine List.foldlRecOn (motive := fun m => Memory.wf m = true) _ _ h fun m hm e _ => ?_
  split
  · exact wentry_apply_wf _ hm e
  · exact hm

/-- One more buffered write is one more write to memory. -/
theorem settledMem_append (s : State) {e : WEntry} (he : s.cfg.takes e = true) :
    State.settledMem { s with wbuf := s.wbuf ++ [e] } = e.apply s.cfg.bigEndian s.settledMem := by
  simp only [State.settledMem, State.pendingMem, List.foldl_append, List.foldl_cons, List.foldl_nil, he, if_true]

/-- The oldest entry goes where it was to go. -/
theorem drainHead_quiet (h : s.quiet) :
    ∃ t, s.drainHead = .ok () t ∧ t = { s with mem := t.mem, wbuf := t.wbuf, bus := t.bus } ∧
      t.settledMem = s.settledMem := by
  obtain ⟨hk, hdma, -⟩ := h
  unfold State.drainHead
  split
  · exact ⟨s, rfl, rfl, rfl⟩
  · rename_i e l hw
    have he : s.cfg.kindOf e = none := hk e (by rw [hw]; exact List.mem_cons_self ..)
    have ht := takes_of_kindOf he
    have hsent : State.sendWrite { s with wbuf := l } e = .ok () { s with
        wbuf := l, bus := State.requestOf { s with wbuf := l } e :: s.bus, mem := e.apply s.cfg.bigEndian s.mem } := by
      simp [State.sendWrite, he, ht, issue_quiet (s := { s with wbuf := l }) hdma]
    refine ⟨_, hsent, rfl, ?_⟩
    simp only [State.settledMem, State.pendingMem, hw, List.foldl_cons, ht, if_true]

/-- A store to memory enters the write buffer, and will be in memory when it has left. -/
theorem pushWrite_quiet {pa : PAddr} {n : Nat} (h : s.plain pa n) (d : DWord) :
    ∃ t, s.pushWrite pa n d = .ok () t ∧ t.settledMem = storeLanes s.cfg.bigEndian s.settledMem pa n d ∧
      t = { s with
        mem := t.mem, wbuf := t.wbuf, bus := t.bus
        hist := { age := 0, what := .code pa n (memLine s.settledMem pa) } :: s.hist } := by
  obtain ⟨hk, hq⟩ := h
  have room : ∃ u, (if s.wbuf.length ≥ 4 || s.wbuf.any (·.isLine) then s.drainHead else .ok () s) = .ok () u ∧
      u = { s with mem := u.mem, wbuf := u.wbuf, bus := u.bus } ∧ u.settledMem = s.settledMem := by
    split
    · exact drainHead_quiet hq
    · exact ⟨s, rfl, rfl, rfl⟩
  obtain ⟨u, hu, hrest, hmem⟩ := room
  have hcfg : u.cfg = s.cfg := by rw [hrest]
  have ht : u.cfg.takes (.word pa n d) = true := takes_of_kindOf (by rw [hcfg]; exact hk)
  refine ⟨{ u.noteCode pa n with wbuf := u.wbuf ++ [.word pa n d] }, ?_, ?_, ?_⟩
  · unfold State.pushWrite
    simp only [hu, Res.bind]
    rfl
  · calc _ = State.settledMem { u with wbuf := u.wbuf ++ [.word pa n d] } := rfl
      _ = storeLanes s.cfg.bigEndian s.settledMem pa n d := by rw [settledMem_append u ht, hmem, hcfg]; rfl
  · have hpend : u.pendingMem = s.settledMem := hmem
    rw [State.noteCode, State.note, hpend, hrest]

end

/-! ### The end of an instruction leaves memory and the caches -/

section
variable (s : State)

@[simp] theorem retire_gpr : s.retire.gpr = s.gpr := by rw [retire_rest]
@[simp] theorem retire_mem : s.retire.mem = s.mem := by rw [retire_rest]
@[simp] theorem retire_wbuf : s.retire.wbuf = s.wbuf := by rw [retire_rest]
@[simp] theorem retire_hist : s.retire.hist = s.hist := by rw [retire_rest]
@[simp] theorem retire_dcache : s.retire.dcache = s.dcache := by rw [retire_rest]
@[simp] theorem retire_icache : s.retire.icache = s.icache := by rw [retire_rest]
@[simp] theorem retire_llbit : s.retire.llbit = s.llbit := by rw [retire_rest]
@[simp] theorem retire_dline (i : Nat) : s.retire.dline i = s.dline i := by rw [retire_rest]; rfl
@[simp] theorem retire_iline (i : Nat) : s.retire.iline i = s.iline i := by rw [retire_rest]; rfl
@[simp] theorem retire_settledMem : s.retire.settledMem = s.settledMem := by rw [retire_rest]; rfl

end

/-! ### The statement -/

section
variable {s : State} {va : DWord} {pa : PAddr} {n : Nat} {attr : BitVec 3} {i : Nat}

/-- A store with good parity writes the line, and memory too unless it is a write-back one (22_caches R252, R253). -/
theorem storeHit_good (h : s.goodAt i pa) (r : Bool) (d : DWord) :
    s.storeHit va (busAddr r pa n) n d attr i =
      if attr = 3 then .ok () (s.writeDLine i (busAddr r pa n) n d true)
      else (s.writeDLine i (busAddr r pa n) n d false).pushWrite (busAddr r pa n) n d := by
  rw [State.storeHit, lineError_good h]
  rfl

/-- A store that hits goes to its line, write-back or write-through. -/
theorem memWrite_hit (hattr : attr ≠ 2) (hline : s.dLookup va pa = some i) (r : Bool) (d : DWord) :
    s.memWrite va (busAddr r pa n) n d attr = s.storeHit va (busAddr r pa n) n d attr i := by
  unfold State.memWrite State.dFind
  rw [if_neg hattr, dLookup_busAddr, hline]
  split <;> rfl

/-- An aligned store that hits. -/
theorem storeFrom_hit {base rt : Reg} {offset : BitVec 16} (hva : (s.address base offset).toNat % n = 0)
    (hx : s.translate .store (s.address base offset) = .ok pa attr) (hattr : attr ≠ 2)
    (hline : s.dLookup (s.address base offset) pa = some i) :
    s.storeFrom base rt offset n =
      (s.storeHit (s.address base offset) (busAddr s.reverseEndian pa n) n
        (s.readGpr rt <<< (8 * laneAt s.bigEndianCPU (s.address base offset) n)) attr i).finish
        fun _ s1 => s1.done := by
  rw [storeFrom_eq hva hx]
  dsimp only [State.writeDatum]
  rw [memWrite_hit hattr hline]

/-- The line a store leaves. -/
theorem dline_writeDLine (hd : sparseWf DLine.zero s.dcache = true) (i : Nat) (pa : PAddr) (n : Nat) (d : DWord)
    (back : Bool) :
    (s.writeDLine i pa n d back).dline i =
      if back then ((writtenLine s i pa n d).retag (s.dline i).tag 3).setW true else writtenLine s i pa n d := by
  rw [writeDLine_eq, dline_put_same hd]

theorem writeDLine_rest (s : State) (i : Nat) (pa : PAddr) (n : Nat) (d : DWord) (back : Bool) :
    s.writeDLine i pa n d back = { s with dcache := (s.writeDLine i pa n d back).dcache } := by
  rw [writeDLine_eq]
  rfl

theorem dline_writeDLine_other (s : State) {i j : Nat} (hj : j ≠ i) (pa : PAddr) (n : Nat) (d : DWord) (back : Bool) :
    (s.writeDLine i pa n d back).dline j = s.dline j := by
  rw [writeDLine_eq, dline_put_other s hj]

/-- What a store does to the line it hits and to the others, in a state `t` with those lines. -/
theorem writeDLine_newLine (hd : sparseWf DLine.zero s.dcache = true) (hn : n ∈ dataSizes) (hva : va.toNat % n = 0)
    (hoff : pa.toNat % 4096 = va.toNat % 4096) (v : DWord) (back : Bool) {t : State}
    (ht : ∀ j, t.dline j = (s.writeDLine i (busAddr s.reverseEndian pa n) n
      (v <<< (8 * laneAt s.bigEndianCPU va n)) back).dline j) :
    (t.dline i).tag = (s.dline i).tag ∧ (∀ j, j ≠ i → t.dline j = s.dline j) ∧
    (∀ k < n, lineByte (t.dline i).data (s.byteAddr pa k % 32) = storedByte s.bigEndianCPU v n k ∧
      (stCE (s.statusSeen .forcedParity) = false →
        (t.dline i).par.getLsbD (s.byteAddr pa k % 32) = parity (storedByte s.bigEndianCPU v n k))) ∧
    (∀ o < 32, (∀ k < n, o ≠ s.byteAddr pa k % 32) →
      lineByte (t.dline i).data o = lineByte (s.dline i).data o ∧
        (t.dline i).par.getLsbD o = (s.dline i).par.getLsbD o) := by
  have hstored := fun k (hk : k < n) => writtenLine_stored (s := s) hn hva hoff i v hk
  have hothers := fun o (ho : o < 32) => writtenLine_others (s := s) hn (aligned_of_page hn hva hoff) i
    (v <<< (8 * laneAt s.bigEndianCPU va n)) ho
  refine ⟨?_, fun j hj => (ht j).trans (dline_writeDLine_other s hj ..), ?_⟩ <;>
    rw [ht, dline_writeDLine hd] <;> cases back
  · rfl
  · rfl
  · exact ⟨hstored, hothers⟩
  · exact ⟨hstored, hothers⟩

/-- An aligned store to memory, through the write buffer: its bytes will be in memory, and nothing else changes. -/
theorem pushWrite_stored (hmem : Memory.wf s.mem = true) (hn : n ∈ dataSizes) (hva : va.toNat % n = 0)
    (hoff : pa.toNat % 4096 = va.toNat % 4096) (hplain : s.plain (busAddr s.reverseEndian pa n) n) (v : DWord) :
    ∃ t, s.pushWrite (busAddr s.reverseEndian pa n) n (v <<< (8 * laneAt s.bigEndianCPU va n)) = .ok () t ∧
      s.Stored t.retire n (s.byteAddr pa) (storedByte s.bigEndianCPU v n) := by
  obtain ⟨t, ht, hset, hrest⟩ := pushWrite_quiet hplain (v <<< (8 * laneAt s.bigEndianCPU va n))
  refine ⟨t, ht, fun k hk => ?_, fun a ha => ?_, ⟨fun x hx => ?_, ?_⟩, ?_⟩
  · rw [State.byteAt, retire_settledMem, hset]
    exact read_storeLanes (settledMem_wf hmem) hn hva hoff v hk
  · rw [State.byteAt, retire_settledMem, hset]
    exact read_storeLanes_other _ hn (aligned_of_page hn hva hoff) _ _ ha
  · rw [retire_hist, hrest] at hx
    rcases List.mem_cons.mp hx with rfl | hx
    · exact .inr rfl
    · exact .inl hx
  · rw [retire_rest, hrest]
  · apply continued_of <;> rw [hrest]

/-- A write-through store that hits: memory and the line change (22_caches R253). -/
theorem writeThrough_stored (hmem : Memory.wf s.mem = true) (hn : n ∈ dataSizes) (hva : va.toNat % n = 0)
    (hoff : pa.toNat % 4096 = va.toNat % 4096) (hplain : s.plain (busAddr s.reverseEndian pa n) n) (v : DWord)
    (i : Nat) :
    let u := s.writeDLine i (busAddr s.reverseEndian pa n) n (v <<< (8 * laneAt s.bigEndianCPU va n)) false
    ∃ t, u.pushWrite (busAddr s.reverseEndian pa n) n (v <<< (8 * laneAt s.bigEndianCPU va n)) = .ok () t ∧
      (∀ j, t.dline j = u.dline j) ∧
      State.Stored { s with dcache := t.retire.dcache } t.retire n (s.byteAddr pa) (storedByte s.bigEndianCPU v n) := by
  intro u
  have hu : u = { s with dcache := u.dcache } := writeDLine_rest ..
  obtain ⟨t, ht, hst⟩ := pushWrite_stored (s := { s with dcache := u.dcache }) hmem hn hva hoff hplain v
  obtain ⟨-, hframe⟩ := hst.frame
  have hd : t.retire.dcache = u.dcache := by rw [hframe]
  refine ⟨t, by rw [hu]; exact ht, fun j => ?_, by rw [hd]; exact hst⟩
  rw [State.dline, State.dline, ← hd, retire_dcache]

end

/-- Settles O30: the store writes its bytes into the line and, if it is a write-through one, into the write buffer; or
its parity error ends the instruction. -/
theorem storesHit : Obligations.StoresHit := by
  intro s base rt offset pa attr i e he h64 va byte newLine hwf hhit
  obtain ⟨hva, hmaps, hattr, hline⟩ := hhit
  have hn := alignedStores_size he
  have hoff := mod_page_of_maps hmaps
  obtain ⟨hx, -⟩ := hmaps
  obtain ⟨hmem, hd, -⟩ := hwf
  have hnew := fun back {t} => writeDLine_newLine (i := i) hd hn hva hoff (s.readGpr rt) back (t := t)
  rw [State.completes, State.completes, exec_alignedStore he h64, storeFrom_hit hva hx hattr hline]
  refine ⟨fun hbad hde => ?_, fun hgood h3 => ?_, fun hgood h01 hplain => ?_⟩
  · rw [State.storeHit, lineError_bad hbad, checkParity_bad hde]
    rfl
  · rw [storeHit_good hgood, if_pos h3]
    refine ⟨_, rfl, hnew true fun j => retire_dline _ j, ?_, ?_, ?_, ⟨?_, ?_, ?_⟩, ?_⟩
    · rw [retire_dline, dline_writeDLine hd]; rfl
    · rw [retire_dline, dline_writeDLine hd]; rfl
    · rw [retire_dline, dline_writeDLine hd]; simp [DLine.tagGood, DLine.retag, DLine.setW]
    · exact fun j hj => (retire_dline _ j).trans (dline_writeDLine_other s hj ..)
    · intro a; rw [State.byteAt, retire_settledMem, writeDLine_rest]; rfl
    · rw [retire_rest, writeDLine_rest]
    · apply continued_of <;> rw [writeDLine_rest]
  · have h3 : attr ≠ 3 := by rintro rfl; revert h01; decide
    obtain ⟨t, ht, hlines, hstored⟩ := writeThrough_stored hmem hn hva hoff hplain (s.readGpr rt) i
    rw [storeHit_good hgood, if_neg h3, ht]
    refine ⟨_, rfl, hnew false fun j => (retire_dline t j).trans (hlines j), ?_, ?_, hstored⟩
    · rw [retire_dline, hlines, dline_writeDLine hd]; rfl
    · rw [retire_dline, hlines, dline_writeDLine hd]; rfl

end Sys2Proof.Proofs

/-! ## Proofs: refilling a line of the data cache (22_caches R251) -/

namespace Sys2Proof.Proofs
open Sys2Proof.Machine

/-! ### Draining, writing back and refilling in a quiet machine -/

section
variable {s : State} {va : DWord} {pa : PAddr} {i : Nat}

/-- The machine after its buffered writes have left; `bus` is what was sent. -/
def drained (s : State) (bus : List BusReq) : State := { s with wbuf := [], bus := bus, mem := s.settledMem }

/-- Line `i` of the data cache stands in the write buffer, alone. -/
def lineQueued (s : State) (i : Nat) (retained : Bool) : State :=
  let at_ := s.lineAddr (s.dline i).tag i
  { s with
    wbuf := [.line at_ (s.dline i).data (s.dline i).par retained (false, i)]
    hist := { age := 0, what := .code at_ 32 (memLine s.mem at_) } :: s.hist }

/-- Line `i` is ready to be replaced: it stands in the write buffer if it was modified. -/
def evicted (s : State) (i : Nat) : State := if s.modified i then lineQueued s i false else s

theorem drain_of_empty (h : s.wbuf = []) : s.drain = .ok () s := by
  unfold State.drain
  rw [h, State.sendAll, ← h]

theorem settledMem_of_empty (h : s.wbuf = []) : s.settledMem = s.mem := by
  rw [State.settledMem, State.pendingMem, h]
  rfl

/-- A line enters an empty write buffer. -/
theorem pushLine_of_empty (h : s.wbuf = []) (pa : PAddr) (d : LineData) (par : BitVec 32) (retained : Bool)
    (slot : Bool × Nat) :
    s.pushLine pa d par retained slot = .ok () { s with
      wbuf := [.line pa d par retained slot]
      hist := { age := 0, what := .code pa 32 (memLine s.mem pa) } :: s.hist } := by
  have hm : s.pendingMem = s.mem := settledMem_of_empty h
  rw [State.pushLine, drain_of_empty h, Res.bind, State.noteCode, hm]
  rfl

/-- A line without a parity error is written back (22_caches R260). -/
theorem writeBack_good (h : s.wbuf = []) (he : (s.dline i).errs = 0) (va : DWord) (pa : PAddr) (retained : Bool) :
    s.writeBack va pa i retained = .ok () (lineQueued s i retained) := by
  unfold State.writeBack
  dsimp only
  rw [pushLine_of_empty h, if_pos he]
  rfl

theorem evict_good (h : s.wbuf = []) (he : (s.dline i).errs = 0) (va : DWord) (pa : PAddr) :
    s.evict va pa i = .ok () (evicted s i) := by
  unfold evicted State.evict State.modified
  dsimp only
  split
  · exact writeBack_good h he va pa false
  · rfl

/-- Replacing a line changes nothing but the write buffer and the record of late writes. -/
theorem evicted_rest (s : State) (i : Nat) :
    evicted s i = { s with wbuf := (evicted s i).wbuf, hist := (evicted s i).hist } := by
  unfold evicted
  split <;> rfl

theorem evicted_wbuf (h : s.wbuf = []) (i : Nat) :
    (evicted s i).wbuf = if s.modified i then
      [.line (s.lineAddr (s.dline i).tag i) (s.dline i).data (s.dline i).par false (false, i)] else [] := by
  unfold evicted
  split
  · rfl
  · exact h

theorem evicted_lateCode (s : State) (i : Nat) : s.lateCode (evicted s i) := by
  intro x hx
  unfold evicted at hx
  split at hx
  · rcases List.mem_cons.mp hx with rfl | hx
    · exact .inr rfl
    · exact .inl hx
  · exact .inl hx

/-- A late write of memory does not change how Status reads. -/
theorem evicted_statusSeen (s : State) (i : Nat) (who : Reader) : (evicted s i).statusSeen who = s.statusSeen who := by
  unfold evicted
  split <;> rfl

/-- The line a refill brings from memory. -/
def memoryLine (s : State) (pa : PAddr) : DLine :=
  newDLine s.cfg.bigEndian pa (s.pick (.fifoBit false)) (s.response none s.settledMem true (dwordAddr pa))

/-- The machine after line `i` of the data cache was refilled from the line of memory that contains `pa`. -/
def refilled (s : State) (bus : List BusReq) (i : Nat) (pa : PAddr) : State :=
  ((evicted (drained s bus) i).breakLink i).putDline i (memoryLine s pa)

/-- A refill from memory, in a quiet machine, of a line without a parity error (22_caches R251). -/
theorem refillD_quiet (h : s.plain (dwordAddr pa) 32) (he : (s.dline (s.victim false va)).errs = 0) :
    ∃ bus, s.refillD va pa = .ok (s.victim false va) (refilled s bus (s.victim false va) pa) := by
  obtain ⟨hk, hq⟩ := h
  obtain ⟨bus, hbus⟩ := busRead_quiet hq (.blockRead (dwordAddr pa) (s.linked (s.victim false va))) hk
    (some (false, s.victim false va))
  refine ⟨bus, ?_⟩
  have hevict := evict_good (s := drained s bus) rfl he va pa
  have hgood : ∀ u : State, u.checkResponse (s.response none s.settledMem true (dwordAddr pa)) false true va pa =
      .ok () u := fun u => checkResponse_good u (respError_response ..) (respBad_response ..) ..
  unfold State.refillD
  dsimp only
  rw [hbus]
  simp only [Res.bind, Option.isSome_some]
  rw [show State.evict { s with wbuf := [], bus := bus, mem := s.settledMem } va pa (s.victim false va) = _ from hevict]
  simp only [hgood, respError_response, Bool.false_eq_true, if_false]
  rfl

/-! ### The refilled line -/

theorem dwordAddr_line (pa : PAddr) :
    (dwordAddr pa).toNat / 32 = pa.toNat / 32 ∧ (dwordAddr pa).extractLsb' 3 2 = pa.extractLsb' 3 2 := by
  have hdword : (dwordAddr pa).toNat = pa.toNat / 8 * 8 := by
    have := pa.isLt
    rw [dwordAddr, BitVec.toNat_append, ← Nat.shiftLeft_add_eq_or_of_lt (BitVec.isLt _), BitVec.extractLsb'_toNat,
      Nat.shiftRight_eq_div_pow, Nat.shiftLeft_eq]
    show _ + (0#3).toNat = _
    simp only [BitVec.toNat_ofNat]
    omega
  refine ⟨by omega, BitVec.eq_of_toNat_eq ?_⟩
  rw [toNat_lineDword, toNat_lineDword, hdword]
  omega

/-- A byte of the refilled line is the byte of memory. -/
theorem lineByte_memoryLine (s : State) (pa : PAddr) {k : Nat} (hk : k < 32) :
    lineByte (memoryLine s pa).data k = s.byteAt (pa.toNat / 32 * 32 + k) := by
  obtain ⟨hline, hdword⟩ := dwordAddr_line pa
  dsimp only [memoryLine, newDLine]
  rw [← hdword, lineByte_response s s.settledMem (dwordAddr pa) hk, hline]
  rfl

/-- Its parity is good. -/
theorem memoryLine_par (s : State) (pa : PAddr) {k : Nat} (hk : k < 32) :
    (memoryLine s pa).par.getLsbD k = parity (lineByte (memoryLine s pa).data k) := by
  obtain ⟨-, hdword⟩ := dwordAddr_line pa
  dsimp only [memoryLine, newDLine]
  rw [← hdword]
  exact respPar_response s s.settledMem (dwordAddr pa) hk

theorem memoryLine_tagGood (s : State) (pa : PAddr) : (memoryLine s pa).tagGood = true := by
  simp [memoryLine, newDLine, DLine.tagGood]

/-- Status.RE does not change which line of memory is read. -/
theorem memoryLine_busAddr (s : State) (r : Bool) (pa : PAddr) (n : Nat) :
    memoryLine s (busAddr r pa n) = memoryLine s pa := by
  simp only [memoryLine, newDLine, dwordAddr_busAddr, tagOf_busAddr, extract_busAddr _ _ _ (Nat.le_refl 3)]

/-- A line whose parity bits are all right is good in every doubleword. -/
theorem dwordGood_of_par {l : DLine} (h : ∀ k < 32, l.par.getLsbD k = parity (lineByte l.data k)) (j : Nat) :
    l.dwordGood j = true := by
  have e : l.par = byteParities l.data :=
    BitVec.eq_of_getLsbD_eq fun k hk => by rw [h k hk, byteParities_getLsbD _ hk]
  simp [DLine.dwordGood, e]

/-! ### The refilled machine -/

theorem refilled_rest (s : State) (bus : List BusReq) (i : Nat) (pa : PAddr) :
    refilled s bus i pa = { s with
      mem := s.settledMem, wbuf := (refilled s bus i pa).wbuf, bus := bus, hist := (refilled s bus i pa).hist
      llbit := s.llbit && !s.linked i, dcache := (refilled s bus i pa).dcache } := by
  unfold refilled
  rw [evicted_rest]
  rfl

theorem refilled_dline (hd : sparseWf DLine.zero s.dcache = true) (bus : List BusReq) (i : Nat) (pa : PAddr) :
    (refilled s bus i pa).dline i = memoryLine s pa := by
  unfold refilled
  rw [evicted_rest]
  exact dline_put_same hd _ _

theorem refilled_dline_other (s : State) (bus : List BusReq) {i j : Nat} (hj : j ≠ i) (pa : PAddr) :
    (refilled s bus i pa).dline j = s.dline j := by
  unfold refilled
  rw [dline_put_other _ hj, evicted_rest]
  rfl

theorem refilled_wbuf (s : State) (bus : List BusReq) (i : Nat) (pa : PAddr) :
    (refilled s bus i pa).wbuf = if s.modified i then
      [.line (s.lineAddr (s.dline i).tag i) (s.dline i).data (s.dline i).par false (false, i)] else [] :=
  evicted_wbuf (s := drained s bus) rfl i

theorem refilled_lateCode (s : State) (bus : List BusReq) (i : Nat) (pa : PAddr) :
    s.lateCode (refilled s bus i pa) := evicted_lateCode (drained s bus) i

theorem refilled_statusSeen (s : State) (bus : List BusReq) (i : Nat) (pa : PAddr) (who : Reader) :
    (refilled s bus i pa).statusSeen who = s.statusSeen who := evicted_statusSeen (drained s bus) i who

theorem refilled_goodAt (hd : sparseWf DLine.zero s.dcache = true) (bus : List BusReq) (i : Nat) (pa at_ : PAddr) :
    (refilled s bus i pa).goodAt i at_ := by
  rw [State.goodAt, refilled_dline hd]
  exact ⟨memoryLine_tagGood s pa, dwordGood_of_par (fun _ hk => memoryLine_par s pa hk) _⟩

/-- The refilled line, in the words of the statement. -/
theorem refilled_refilled (hd : sparseWf DLine.zero s.dcache = true) (bus : List BusReq) (i : Nat) (pa : PAddr)
    {t : State} (ht : ∀ j, t.dline j = (refilled s bus i pa).dline j) : s.Refilled t i pa where
  tag := by rw [ht, refilled_dline hd]; exact toNat_tagOf pa
  state := by rw [ht, refilled_dline hd]; rfl
  w := by rw [ht, refilled_dline hd]; rfl
  good := by
    rw [ht, refilled_dline hd]
    exact ⟨lineErrs_zero fun _ hk => memoryLine_par s pa hk, memoryLine_tagGood s pa⟩
  data k hk := by rw [ht, refilled_dline hd, lineByte_memoryLine s pa hk]
  others j hj := (ht j).trans (refilled_dline_other s bus hj pa)

/-- A refill takes one of the two ways of the set (22_caches R235). -/
theorem victim_eq (s : State) (instr : Bool) (va : DWord) :
    s.victim instr va = va.toNat / 32 % 256 ∨ s.victim instr va = 256 + va.toNat / 32 % 256 := by
  have hset : (Machine.setOf va).toNat = va.toNat / 32 % 256 := by
    rw [Machine.setOf, BitVec.extractLsb'_toNat, Nat.shiftRight_eq_div_pow]
  rw [State.victim, lineIndex, hset]
  split
  · exact .inr rfl
  · exact .inl (Nat.zero_add _)

end

end Sys2Proof.Proofs

/-! ## Proofs: the aligned references that miss the data cache (O27) -/

namespace Sys2Proof.Proofs
open Sys2Proof.Machine

/-! ### References in the refilled machine -/

section
variable {s : State} {va : DWord} {pa : PAddr} {n : Nat} {attr : BitVec 3} {bus : List BusReq} {i : Nat}

theorem refilled_reverseEndian (s : State) (bus : List BusReq) (i : Nat) (pa : PAddr) :
    (refilled s bus i pa).reverseEndian = s.reverseEndian := by
  simp only [State.reverseEndian, refilled_statusSeen]

theorem refilled_bigEndianCPU (s : State) (bus : List BusReq) (i : Nat) (pa : PAddr) :
    (refilled s bus i pa).bigEndianCPU = s.bigEndianCPU := by
  rw [State.bigEndianCPU, refilled_reverseEndian, refilled_rest, State.bigEndianCPU]

theorem refilled_byteAddr (s : State) (bus : List BusReq) (i : Nat) (pa : PAddr) :
    (refilled s bus i pa).byteAddr = s.byteAddr := by
  funext pa k
  simp only [State.byteAddr, refilled_reverseEndian]

/-- Which line of memory is read does not depend on Status.RE. -/
theorem refilled_busAddr (s : State) (bus : List BusReq) (i : Nat) (r : Bool) (pa : PAddr) (n : Nat) :
    refilled s bus i (busAddr r pa n) = refilled s bus i pa := by
  simp only [refilled, memoryLine_busAddr]

/-- A reference that misses finds its line refilled. -/
theorem dFind_miss (hmiss : s.dLookup va pa = none) (hplain : s.plain (dwordAddr pa) 32)
    (he : (s.dline (s.victim false va)).errs = 0) (r : Bool) (n : Nat) :
    ∃ bus, s.dFind va (busAddr r pa n) = .ok (s.victim false va) (refilled s bus (s.victim false va) pa) := by
  obtain ⟨bus, hbus⟩ := refillD_quiet (pa := busAddr r pa n) (by rwa [dwordAddr_busAddr]) he
  refine ⟨bus, ?_⟩
  rw [State.dFind, dLookup_busAddr, hmiss]
  rw [refilled_busAddr] at hbus
  exact hbus

/-- The datum of an aligned load in the refilled line is the number its bytes in memory spell. -/
theorem toNat_refilledDatum (hd : sparseWf DLine.zero s.dcache = true) (hn : n ∈ dataSizes)
    (hva : va.toNat % n = 0) (hoff : pa.toNat % 4096 = va.toNat % 4096) (bus : List BusReq) (i : Nat) :
    (lineDword s.cfg.bigEndian ((refilled s bus i pa).dline i).data (pa.toNat / 8 % 4) >>>
      (8 * laneAt s.bigEndianCPU va n)).toNat % 256 ^ n = s.memNumber pa n := by
  refine toNat_datum hn hva hoff fun k hk => ?_
  have hpa := aligned_of_page hn hva hoff
  have hline := byteAddr_mod32 (s := s) hn hpa hk
  have hdword := byteAddr_div8 (s := s) hn hpa hk
  rw [lane_lineDword _ _ _ (Nat.mod_lt _ (by decide)), refilled_dline hd, lineByte_memoryLine _ _ (by omega)]
  congr 1
  omega

/-- A byte of memory after a refill: the line written back, if there was one, lies at its address. -/
theorem refilled_byteAt (hm : Memory.wf s.mem = true)
    (hk : s.cfg.kindOf (.line (s.lineAddr (s.dline i).tag i) (s.dline i).data (s.dline i).par false (false, i)) = none)
    (a : Nat) :
    (refilled s bus i pa).byteAt a =
      if s.modified i ∧ a / 32 = (s.lineAddr (s.dline i).tag i).toNat / 32 then lineByte (s.dline i).data (a % 32)
      else s.byteAt a := by
  have hcfg : (refilled s bus i pa).cfg = s.cfg := by rw [refilled_rest]
  have hmem : (refilled s bus i pa).mem = s.settledMem := by rw [refilled_rest]
  have hset : (refilled s bus i pa).settledMem =
      if s.modified i then storeLine s.settledMem (s.lineAddr (s.dline i).tag i) (s.dline i).data
      else s.settledMem := by
    rw [State.settledMem, State.pendingMem, refilled_wbuf, hcfg, hmem]
    split
    · rw [List.foldl_cons, List.foldl_nil, takes_of_kindOf hk, if_pos rfl]
      rfl
    · rfl
  rw [State.byteAt, hset]
  by_cases hmod : s.modified i
  · rw [if_pos hmod, storeLine]
    by_cases ha : a / 32 = (s.lineAddr (s.dline i).tag i).toNat / 32
    · have hlt : a % 32 < 32 := Nat.mod_lt _ (by decide)
      rw [if_pos ⟨hmod, ha⟩, ← ha, ← storeBytes_read (settledMem_wf hm) (a / 32 * 32) (lineByte (s.dline i).data) hlt]
      congr 1
      omega
    · rw [if_neg (by simp [ha]), storeBytes_read_other _ _ _ _ (by omega)]
      rfl
  · rw [if_neg hmod, if_neg (by simp [hmod])]
    rfl

/-- The bus stays quiet after a refill: only the line written back waits. -/
theorem refilled_plain {at_ : PAddr} (hplain : s.plain at_ n)
    (hk : s.cfg.kindAt (s.lineAddr (s.dline i).tag i) 32 = none) : (refilled s bus i pa).plain at_ n := by
  obtain ⟨hat, -, hdma, hreply⟩ := hplain
  have hcfg : (refilled s bus i pa).cfg = s.cfg := by rw [refilled_rest]
  refine ⟨by rw [hcfg]; exact hat, fun e he => ?_, by rw [refilled_rest]; exact hdma,
    by rw [refilled_rest]; exact hreply⟩
  rw [refilled_wbuf] at he
  split at he
  · rw [List.mem_singleton.mp he, hcfg]
    exact hk
  · cases he

/-! ### The new line after a store -/

/-- The parity of a refilled line is good after a store that computes it, as its tag is. -/
theorem refilled_written (hd : sparseWf DLine.zero s.dcache = true) (hn : n ∈ dataSizes) (hva : va.toNat % n = 0)
    (hoff : pa.toNat % 4096 = va.toNat % 4096) (hce : stCE (s.statusSeen .forcedParity) = false) (v : DWord)
    (back : Bool) {t : State}
    (ht : ∀ j, t.dline j = ((refilled s bus i pa).writeDLine i (busAddr s.reverseEndian pa n) n
      (v <<< (8 * laneAt s.bigEndianCPU va n)) back).dline j) :
    (t.dline i).tag.toNat = pa.toNat / 4096 ∧ (t.dline i).state = 3 ∧ (t.dline i).w = back ∧
    (t.dline i).errs = 0 ∧ (t.dline i).tagGood = true ∧ (∀ j : Nat, j ≠ i → t.dline j = s.dline j) ∧
    (∀ k < n, lineByte (t.dline i).data (s.byteAddr pa k % 32) = storedByte s.bigEndianCPU v n k) ∧
    (∀ o < 32, (∀ k < n, o ≠ s.byteAddr pa k % 32) →
      lineByte (t.dline i).data o = s.byteAt (pa.toNat / 32 * 32 + o)) := by
  have hrd : sparseWf DLine.zero (refilled s bus i pa).dcache = true :=
    putDline_wf (by rw [evicted_rest]; exact hd) _ _
  rw [← refilled_reverseEndian s bus i pa, ← refilled_bigEndianCPU s bus i pa] at ht
  obtain ⟨htag, hothers, hstored, hkept⟩ := writeDLine_newLine hrd hn hva hoff v back ht
  rw [refilled_byteAddr] at hstored hkept
  rw [refilled_bigEndianCPU, refilled_statusSeen] at hstored
  rw [refilled_dline hd] at htag hkept
  have hline := (ht i).trans (dline_writeDLine hrd ..)
  refine ⟨?_, ?_, ?_, lineErrs_zero fun o ho => ?_, ?_, fun j hj => ?_, fun k hk => (hstored k hk).1,
    fun o ho hne => ?_⟩
  · rw [htag]; exact toNat_tagOf pa
  · rw [hline]
    cases back
    · exact congrArg DLine.state (refilled_dline hd bus i pa)
    · rfl
  · rw [hline]
    cases back
    · exact congrArg DLine.w (refilled_dline hd bus i pa)
    · rfl
  · by_cases hin : ∃ k < n, o = s.byteAddr pa k % 32
    · obtain ⟨k, hk, rfl⟩ := hin
      obtain ⟨hbyte, hpar⟩ := hstored k hk
      rw [hpar hce, hbyte]
    · obtain ⟨hbyte, hpar⟩ := hkept o ho fun k hk he => hin ⟨k, hk, he⟩
      rw [hpar, hbyte, memoryLine_par _ _ ho]
  · rw [hline]
    cases back
    · have := memoryLine_tagGood s pa
      rw [← refilled_dline hd bus i pa] at this
      exact this
    · simp [DLine.tagGood, DLine.retag, DLine.setW]
  · rw [hothers j hj, refilled_dline_other s bus hj]
  · rw [(hkept o ho hne).1, lineByte_memoryLine _ _ ho]

/-! ### What else changes -/

/-- Nothing changed but what a reference that misses may change: a general register, memory, the write buffer, the
bus, the data cache and LLbit. -/
def OnlyRefilled (s t : State) : Prop :=
  s.Continued t ∧ s.lateCode t ∧ t = { s with
    gpr := t.gpr, pc := t.pc, pending := t.pending, hist := t.hist, mem := t.mem, wbuf := t.wbuf, bus := t.bus
    dcache := t.dcache, llbit := t.llbit, cp0 := { s.cp0 with random := t.cp0.random } }

/-- What follows from the program counter, the pending branch, Random and Wired alone. -/
theorem continued_congr {s r t : State} (h : r.Continued t) (hpc : r.pc = s.pc) (hp : r.pending = s.pending)
    (hr : r.cp0.random = s.cp0.random) (hw : r.cp0.wired = s.cp0.wired) : s.Continued t := by
  obtain ⟨pc, slot, random⟩ := h
  refine ⟨?_, slot, ?_⟩
  · rw [pc, State.nextPc, State.nextPc, hpc, hp]
  · rw [State.randomSteps, hr, hw] at random
    exact random

/-- The end of a reference in the refilled machine, whatever it wrote there. -/
theorem onlyRefilled_of (s : State) (bus : List BusReq) (i : Nat) (pa : PAddr) {t : State}
    (hc : (refilled s bus i pa).Continued t) (hl : (refilled s bus i pa).lateCode t)
    (hrest : t = { refilled s bus i pa with
      gpr := t.gpr, pc := t.pc, pending := t.pending, hist := t.hist, mem := t.mem, wbuf := t.wbuf, bus := t.bus
      dcache := t.dcache, cp0 := { (refilled s bus i pa).cp0 with random := t.cp0.random } }) : OnlyRefilled s t := by
  refine ⟨?_, fun x hx => ?_, ?_⟩
  · apply continued_congr hc <;> rw [refilled_rest]
  · rcases hl x hx with h | h
    · exact refilled_lateCode s bus i pa x h
    · exact .inr h
  · rw [hrest, refilled_rest]

end

/-! ### The statement -/

section
variable {s : State} {va : DWord} {pa : PAddr} {n : Nat} {attr : BitVec 3}

/-- A reference that misses, in the words of the statement. -/
def Missed (s : State) (va : DWord) (pa : PAddr) (n : Nat) : Prop :=
  va.toNat % n = 0 ∧ s.dLookup va pa = none ∧ s.plain (dwordAddr pa) 32 ∧ (s.dline (s.victim false va)).errs = 0

/-- An aligned load that misses takes its datum from the refilled line. -/
theorem readDatum_miss (hd : sparseWf DLine.zero s.dcache = true) (hmiss : Missed s va pa n) (hattr : attr ≠ 2) :
    ∃ bus, s.readDatum va n (pa, attr) =
      .ok (lineDword s.cfg.bigEndian ((refilled s bus (s.victim false va) pa).dline (s.victim false va)).data
          (pa.toNat / 8 % 4) >>> (8 * laneAt s.bigEndianCPU va n))
        (refilled s bus (s.victim false va) pa) := by
  obtain ⟨-, hmiss, hplain, he⟩ := hmiss
  obtain ⟨bus, hbus⟩ := dFind_miss hmiss hplain he s.reverseEndian n
  refine ⟨bus, ?_⟩
  have hcfg : (refilled s bus (s.victim false va) pa).cfg = s.cfg := by rw [refilled_rest]
  simp only [State.readDatum, State.memRead, if_neg hattr]
  rw [hbus, Res.bind, readDLine_good (refilled_goodAt hd ..), hcfg]
  rfl

/-- An aligned store with allocation that misses goes to the refilled line. -/
theorem writeDatum_miss (hd : sparseWf DLine.zero s.dcache = true) (hmiss : Missed s va pa n)
    (hattr : attr = 1 ∨ attr = 3) (v : DWord) :
    ∃ bus, let i := s.victim false va
      let d := v <<< (8 * laneAt s.bigEndianCPU va n)
      s.writeDatum va n v (pa, attr) =
        if attr = 3 then .ok () ((refilled s bus i pa).writeDLine i (busAddr s.reverseEndian pa n) n d true)
        else ((refilled s bus i pa).writeDLine i (busAddr s.reverseEndian pa n) n d false).pushWrite
          (busAddr s.reverseEndian pa n) n d := by
  obtain ⟨-, hmiss, hplain, he⟩ := hmiss
  obtain ⟨bus, hbus⟩ := dFind_miss hmiss hplain he s.reverseEndian n
  have hattr2 : attr ≠ 2 := by rintro rfl; revert hattr; decide
  have hattr0 : attr ≠ 0 := by rintro rfl; revert hattr; decide
  refine ⟨bus, ?_⟩
  simp only [State.writeDatum, State.memWrite, if_neg hattr2, if_neg hattr0]
  rw [hbus, Res.bind, storeHit_good (refilled_goodAt hd ..)]

end

/-- Settles O27: the line is refilled, and the reference then hits it. -/
theorem cacheMissesRefill : Obligations.CacheMissesRefill := by
  intro s base rt offset pa attr va set missed only hwf
  obtain ⟨hmem, hd, -⟩ := hwf
  have hvictim : s.victim false va = set ∨ s.victim false va = 256 + set := victim_eq s false va
  have hmissed : ∀ {k n}, missed k n → Missed s va pa n := by
    rintro k n ⟨hva, -, hmiss, hplain, he0, he1⟩
    exact ⟨hva, hmiss, hplain, by rcases hvictim with h | h <;> rw [h] <;> assumption⟩
  refine ⟨fun e he h64 hm hattr => ?_, fun e he h64 hm hattr hce hthrough => ?_⟩
  · have hn := alignedLoads_size he
    have hmiss := hmissed hm
    obtain ⟨hva, hmaps, -⟩ := hm
    obtain ⟨bus, hread⟩ := readDatum_miss hd hmiss hattr
    obtain ⟨t, ht, hw⟩ := setGpr_wrote (refilled s bus (s.victim false va) pa) rt
      (extended e.2.2.1 e.2.1 (s.memNumber pa e.2.1))
    obtain ⟨⟨hresult, ⟨hothers, -, hrest⟩, hcont⟩, hlate⟩ := hw
    have hlines : ∀ j, t.dline j = (refilled s bus (s.victim false va) pa).dline j := fun j => by
      rw [hrest]; rfl
    refine ⟨t, ?_, hresult, fun r hr => ?_, ?_, onlyRefilled_of s bus _ pa hcont (fun x hx => .inl (hlate x hx)) ?_,
      s.victim false va, hvictim, refilled_refilled hd bus _ pa hlines, ?_, ?_⟩
    · rw [exec_alignedLoad he h64, loadTo_eq hva hmaps.1, hread, Res.finish,
        toNat_refilledDatum hd hn hva (mod_page_of_maps hmaps)]
      exact ht
    · rw [hothers r hr, refilled_rest]; rfl
    · rw [hrest, refilled_rest]
    · rw [hrest]
    · rw [State.wroteBack, ← refilled_wbuf s bus _ pa, hrest]
    · rw [hrest, refilled_rest]
  · have hn := alignedStores_size he
    have hmiss := hmissed hm
    obtain ⟨hva, hmaps, -⟩ := hm
    have hoff := mod_page_of_maps hmaps
    obtain ⟨bus, hwrite⟩ := writeDatum_miss hd hmiss hattr (s.readGpr rt)
    generalize s.victim false va = i at hvictim hwrite
    have hnew := fun back {t} => refilled_written (bus := bus) (i := i) hd hn hva hoff hce
      (s.readGpr rt) back (t := t)
    rw [State.completes, exec_alignedStore he h64, storeFrom_eq hva hmaps.1, hwrite]
    rcases hattr with rfl | rfl
    · obtain ⟨hplain, hkinds⟩ := hthrough rfl
      have hk : s.cfg.kindAt (s.lineAddr (s.dline i).tag i) 32 = none := by
        rcases hvictim with h | h <;> rw [h] <;> exact hkinds _ (by simp)
      have hrefilledMem : Memory.wf (refilled s bus i pa).mem = true := by
        rw [refilled_rest]; exact settledMem_wf hmem
      obtain ⟨t, ht, hlines, hstored, hothers, ⟨hlate, hrest⟩, hcont⟩ :=
        writeThrough_stored hrefilledMem hn hva hoff (by
          rw [refilled_reverseEndian]; exact refilled_plain hplain hk) (s.readGpr rt) i
      rw [refilled_byteAddr, refilled_bigEndianCPU] at hstored
      rw [refilled_byteAddr] at hothers
      rw [refilled_reverseEndian, refilled_bigEndianCPU] at ht hlines
      obtain ⟨htag, hstate, hw, herrs, hgood, hrestLines, hbytes, hkept⟩ :=
        hnew false fun j => (retire_dline t j).trans (hlines j)
      rw [if_neg (by decide), ht]
      refine ⟨t.retire, rfl, ?_, onlyRefilled_of s bus i pa ?_ hlate ?_, i, hvictim, ?_, htag, hstate, hw, herrs,
        hgood, hrestLines, hbytes, hkept, fun h => absurd h (by decide), fun _ => ⟨hstored, fun a ha => ?_⟩⟩
      · rw [hrest, refilled_rest]
      · exact continued_congr hcont rfl rfl rfl rfl
      · rw [hrest]
      · rw [hrest, refilled_rest]
      · rw [hothers a ha]
        exact refilled_byteAt (pa := pa) hmem hk a
    · obtain ⟨htag, hstate, hw, herrs, hgood, hrestLines, hbytes, hkept⟩ := hnew true fun j => retire_dline _ j
      rw [if_pos rfl]
      refine ⟨_, rfl, ?_, onlyRefilled_of s bus i pa ?_ (fun x hx => .inl ?_) ?_, i, hvictim, ?_, htag, hstate, hw,
        herrs, hgood, hrestLines, hbytes, hkept, fun _ => ⟨?_, ?_⟩, fun h => absurd h (by decide)⟩
      · rw [retire_gpr, writeDLine_rest, refilled_rest]
      · apply continued_of <;> rw [writeDLine_rest]
      · rwa [retire_hist, writeDLine_rest] at hx
      · rw [retire_rest, writeDLine_rest]
      · rw [retire_llbit, writeDLine_rest, refilled_rest]
      · rw [retire_mem, writeDLine_rest, refilled_rest]
      · rw [State.wroteBack, ← refilled_wbuf s bus _ pa, retire_wbuf, writeDLine_rest]

end Sys2Proof.Proofs

/-! ## Proofs: what the operations of CACHE share (22_caches R240 to R262) -/

namespace Sys2Proof.Proofs
open Sys2Proof.Machine

/-! ### The machine an operation leaves -/

section
variable {s u v : State} {i : Nat}

/-- The write buffer of `s` was drained into memory; a line may stand in it again. -/
structure Emptied (s u : State) : Prop where
  mem : u.mem = s.settledMem
  late : s.lateCode u
  rest : u = { s with mem := u.mem, wbuf := u.wbuf, bus := u.bus, hist := u.hist }

theorem drained_emptied (s : State) (bus : List BusReq) : Emptied s (drained s bus) :=
  ⟨rfl, fun _ h => .inl h, rfl⟩

theorem Emptied.lineQueued (h : Emptied s u) (i : Nat) (retained : Bool) : Emptied s (lineQueued u i retained) where
  mem := h.mem
  late x hx := by
    rcases List.mem_cons.mp hx with rfl | hx
    · exact .inr rfl
    · exact h.late x hx
  rest := by rw [Proofs.lineQueued, h.rest]

theorem Emptied.evicted (h : Emptied s u) (i : Nat) : Emptied s (evicted u i) := by
  unfold Proofs.evicted
  split
  · exact h.lineQueued i false
  · exact h

/-- An operation has ended with the write buffer drained into memory and control going on. -/
def Flushed (s t : State) : Prop := t.mem = s.settledMem ∧ s.onlyCaches t ∧ s.Continued t

/-- An operation changes lines, LLbit, Status, TagLo and ECC, and goes on at the next instruction. -/
theorem flushed_of (hu : Emptied s u) (hlate : ∀ x ∈ v.hist, x ∈ u.hist ∨ ∃ i l, x.what = .icache i l)
    (hv : v = { u with
      icache := v.icache, dcache := v.dcache, llbit := v.llbit, hist := v.hist
      cp0 := { u.cp0 with status := v.cp0.status, tagLo := v.cp0.tagLo, ecc := v.cp0.ecc } }) :
    Flushed s v.retire := by
  obtain ⟨hmem, hcode, hrest⟩ := hu
  refine ⟨?_, ⟨fun x hx => ?_, ?_⟩, ?_⟩
  · rw [retire_mem, hv]; exact hmem
  · rw [retire_hist] at hx
    rcases hlate x hx with h | h
    · exact (hcode x h).imp_right .inl
    · exact .inr (.inr h)
  · rw [retire_rest, hv, hrest]
  · apply continued_of <;> rw [hv, hrest]

/-- An operation that puts `l` in the place of line `i` of the data cache. -/
theorem putDline_only (hd : sparseWf DLine.zero s.dcache = true) (hu : Emptied s u) (i : Nat) (l : DLine) :
    s.onlyD (u.putDline i l) i ∧ (u.putDline i l).dline i = l := by
  rw [hu.rest]
  exact ⟨⟨fun j hj => dline_put_other _ hj l, rfl⟩, dline_put_same hd i l⟩

/-- An operation that puts `l` in the place of line `i` of the instruction cache. -/
theorem changeI_only (hi : sparseWf ILine.zero s.icache = true) (hu : Emptied s u) (i : Nat) (l : ILine) :
    s.onlyI (u.changeI i l) i ∧ (u.changeI i l).iline i = l := by
  rw [hu.rest]
  exact ⟨⟨fun j hj => iline_put_other _ hj l, rfl⟩, iline_put_same hi i l⟩

/-- A changed instruction line is a late write of the instruction cache. -/
theorem changeI_late (u : State) (i : Nat) (l : ILine) :
    ∀ x ∈ (u.changeI i l).hist, x ∈ u.hist ∨ ∃ i l, x.what = .icache i l := by
  intro x hx
  rcases List.mem_cons.mp hx with rfl | hx
  · exact .inr ⟨_, _, rfl⟩
  · exact .inl hx

/-- Status.CH tells whether there was a line (22_caches R258). -/
theorem setCH_ranCH (h : v.cp0.status = s.cp0.status) (hit : Bool) : s.ranCH (v.setCH hit) hit := by
  intro b _
  rw [State.setCH, getLsbD_putBit _ (by decide), h]

end

/-! ### What the end of the instruction does not change -/

section
variable (s v : State) (i : Nat) (hit : Bool)

@[simp] theorem retire_status : v.retire.cp0.status = v.cp0.status := by rw [retire_rest]
@[simp] theorem retire_tagLo : v.retire.cp0.tagLo = v.cp0.tagLo := by rw [retire_rest]
@[simp] theorem retire_ecc : v.retire.cp0.ecc = v.cp0.ecc := by rw [retire_rest]
@[simp] theorem onlyD_retire : s.onlyD v.retire i ↔ s.onlyD v i := by rw [retire_rest]; rfl
@[simp] theorem onlyI_retire : s.onlyI v.retire i ↔ s.onlyI v i := by rw [retire_rest]; rfl
@[simp] theorem keepsTags_retire : s.keepsTags v.retire ↔ s.keepsTags v := by rw [retire_rest]; rfl
@[simp] theorem ranCH_retire : s.ranCH v.retire hit ↔ s.ranCH v hit := by rw [retire_rest]; rfl
@[simp] theorem wroteBack_retire (m r : Bool) : s.wroteBack v.retire i m r ↔ s.wroteBack v i m r := by
  rw [retire_rest]; rfl

end

section
variable {s : State}

/-- A Hit operation that found no line changed Status.CH alone. -/
theorem setCH_flushed (s : State) (bus : List BusReq) (hit : Bool) :
    let t := ((drained s bus).setCH hit).retire
    Flushed s t ∧ (t.wbuf = [] ∧ t.llbit = s.llbit ∧ s.keepsTags t) ∧ t.dcache = s.dcache ∧ t.icache = s.icache ∧
      s.ranCH t hit := by
  refine ⟨flushed_of (drained_emptied s bus) (fun _ => .inl) rfl, ⟨?_, ?_, (keepsTags_retire ..).mpr ⟨rfl, rfl⟩⟩,
    ?_, ?_, (ranCH_retire ..).mpr (setCH_ranCH (v := drained s bus) rfl hit)⟩
  · rw [retire_wbuf]; rfl
  · rw [retire_llbit]; rfl
  · rw [retire_dcache]; rfl
  · rw [retire_icache]; rfl

/-! ### The line an operation works on -/

theorem indexOf_eq (va : DWord) : indexOf va = va.toNat / 32 % 256 + (if va.getLsbD 13 then 256 else 0) := by
  rw [indexOf, lineIndex, Machine.setOf, BitVec.extractLsb'_toNat, Nat.shiftRight_eq_div_pow, Nat.add_comm]

theorem dwordOf_eq (va : DWord) : dwordOf va = va.toNat / 8 % 4 := by
  rw [dwordOf, BitVec.extractLsb'_toNat, Nat.shiftRight_eq_div_pow]

/-! ### From the instruction to its operation -/

/-- An operation completes in a state that is as `p` says. -/
def OpDone (r : Result) (p : State → Prop) : Prop := ∃ t, r = .next t ∧ p t

theorem OpDone.of_done {r : Result} {v : State} {p : State → Prop} (h : r = v.done) (hp : p v.retire) : OpDone r p :=
  ⟨_, h, hp⟩

/-- CACHE at a cached address drains the write buffer and goes on with its operation (22_caches R240, R262). -/
theorem exec_cache {base : Reg} {offset : BitVec 16} {pa : PAddr} {attr : BitVec 3} (hcop : s.copUsable 0 = true)
    (hx : s.translate .load (s.address base offset) = .ok pa attr) (hattr : attr ≠ 2) (hq : s.quiet) :
    ∃ bus, ∀ op, exec (.cache base op offset) s = (drained s bus).cacheOp op (s.address base offset) pa := by
  obtain ⟨bus, hbus⟩ := drain_quiet hq
  refine ⟨bus, fun op => ?_⟩
  have hstart : exec (.cache base op offset) s = execCache base op offset s := rfl
  rw [hstart, execCache, ← address_eq_ea, needsCop_usable hcop, xlate_of_translate hx]
  simp only [Res.finish, if_neg hattr, hbus]
  rfl

theorem exec_cache_uncached {base : Reg} {offset : BitVec 16} {pa : PAddr} (hcop : s.copUsable 0 = true)
    (hx : s.translate .load (s.address base offset) = .ok pa 2) (op : BitVec 5) :
    exec (.cache base op offset) s = .refused .cacheUncached := by
  have hstart : exec (.cache base op offset) s = execCache base op offset s := rfl
  rw [hstart, execCache, ← address_eq_ea, needsCop_usable hcop, xlate_of_translate hx]
  rfl

end

/-! ### TagLo (11_cp0_registers R112) -/

section
variable {f : TagLoLayout} (tag : BitVec 24) (state : BitVec 2) (fifo par : Bool) (rest : BitVec 8)

/-- The tag of a TagLo word. -/
theorem tagOf_word : (f.word tag state fifo par rest).toNat / 256 = tag.toNat := by
  rw [TagLoLayout.word, BitVec.toNat_append, ← Nat.shiftLeft_add_eq_or_of_lt (BitVec.isLt _), Nat.shiftLeft_eq]
  have := (putBit (putBit (putBit (putBit rest f.pState.toNat (state.getLsbD 0)) (f.pState.toNat + 1)
    (state.getLsbD 1)) f.fifo.toNat fifo) f.par.toNat par).isLt
  omega

theorem toNat_tagField (t : Word) : (t.extractLsb' 8 24).toNat = t.toNat / 256 := by
  have := t.isLt
  rw [BitVec.extractLsb'_toNat, Nat.shiftRight_eq_div_pow]
  omega

theorem stateOf_toNat (f : TagLoLayout) (t : Word) : (f.stateOf t).toNat = t.toNat / 2 ^ f.pState.toNat % 4 := by
  rw [TagLoLayout.stateOf, BitVec.extractLsb'_toNat, Nat.shiftRight_eq_div_pow]

/-- The fields of a layout, as numbers. -/
theorem layout_apart (hf : f.ok = true) : f.pState.toNat + 1 < 8 ∧ f.fifo.toNat ≠ f.pState.toNat ∧
    f.fifo.toNat ≠ f.pState.toNat + 1 ∧ f.par.toNat ≠ f.pState.toNat ∧ f.par.toNat ≠ f.pState.toNat + 1 ∧
    f.fifo.toNat ≠ f.par.toNat := by
  simp only [TagLoLayout.ok, Bool.and_eq_true, bne_iff_ne, ne_eq] at hf
  obtain ⟨⟨⟨⟨⟨h7, h1⟩, h2⟩, h3⟩, h4⟩, h5⟩ := hf
  refine ⟨?_, ?_, ?_, ?_, ?_, ?_⟩ <;> bv_omega

/-- A low bit of a TagLo word. -/
theorem getLsbD_word (hf : f.ok = true) {b : Nat} (hb : b < 8) : (f.word tag state fifo par rest).getLsbD b =
    if b = f.par.toNat then par else if b = f.fifo.toNat then fifo
    else if b = f.pState.toNat + 1 then state.getLsbD 1 else if b = f.pState.toNat then state.getLsbD 0
    else rest.getLsbD b := by
  obtain ⟨hp, -⟩ := layout_apart hf
  have hfifo : f.fifo.toNat < 8 := f.fifo.isLt
  have hpar : f.par.toNat < 8 := f.par.isLt
  rw [TagLoLayout.word, BitVec.getLsbD_append, if_pos hb, getLsbD_putBit _ hpar, getLsbD_putBit _ hfifo,
    getLsbD_putBit _ hp, getLsbD_putBit _ (by omega)]

/-- What Index Load Tag puts into TagLo. -/
theorem word_fields (hf : f.ok = true) :
    (f.word tag state fifo par rest).toNat / 2 ^ f.pState.toNat % 4 = state.toNat ∧
    (f.word tag state fifo par rest).getLsbD f.fifo.toNat = fifo ∧
    (f.word tag state fifo par rest).getLsbD f.par.toNat = par := by
  obtain ⟨hp, h1, h2, h3, h4, h5⟩ := layout_apart hf
  refine ⟨?_, ?_, ?_⟩
  · rw [← stateOf_toNat]
    congr 1
    refine BitVec.eq_of_getLsbD_eq fun b hb => ?_
    rw [TagLoLayout.stateOf, BitVec.getLsbD_extractLsb', getLsbD_word tag state fifo par rest hf (by omega)]
    rcases (by omega : b = 0 ∨ b = 1) with rfl | rfl
    · simp [h1.symm, h3.symm]
    · simp [h2.symm, h4.symm]
  · rw [getLsbD_word tag state fifo par rest hf (BitVec.isLt _), if_neg h5, if_pos rfl]
  · rw [getLsbD_word tag state fifo par rest hf (BitVec.isLt _), if_pos rfl]

end

end Sys2Proof.Proofs

/-! ## Proofs: CACHE on the data cache (O42) -/

namespace Sys2Proof.Proofs
open Sys2Proof.Machine

section
variable {s u : State} {va : DWord} {pa : PAddr} {i : Nat} {bus : List BusReq}

/-- Without forced parity a line keeps the parity it has (22_caches R259). -/
theorem forceD_off (hce : stCE (s.statusSeen .forcedParity) = false) (i : Nat) (va : DWord) : s.forceD i va = s := by
  rw [State.forceD, hce]
  rfl

/-- Line `i` is replaced by `l`, which breaks its link (20_memory R166). -/
def replaced (u : State) (i : Nat) (l : DLine) : State := (u.breakLink i).putDline i l

theorem replaced_only (hd : sparseWf DLine.zero s.dcache = true) (hu : Emptied s u) (i : Nat) (l : DLine) :
    s.onlyD (replaced u i l) i ∧ (replaced u i l).dline i = l ∧
      (replaced u i l).llbit = (s.llbit && !s.linked i) ∧ s.keepsTags (replaced u i l) := by
  rw [hu.rest]
  exact ⟨⟨fun j hj => dline_put_other _ hj l, rfl⟩, dline_put_same hd i l, rfl, rfl, rfl⟩

theorem replaced_flushed (hu : Emptied s u) (i : Nat) (l : DLine) :
    Flushed s (replaced u i l).retire :=
  flushed_of hu (fun _ hx => .inl hx) rfl

/-- What replacing a line that may be modified leaves: the line is in the write buffer if it was. -/
theorem evicted_wroteBack (s : State) (bus : List BusReq) (i : Nat) :
    s.wroteBack (evicted (drained s bus) i) i (s.modified i) false := evicted_wbuf (s := drained s bus) rfl i

/-- A modified line is written back and the line invalidated (22_caches R244, R256). -/
theorem writeBackInvalidate_good (hce : stCE (s.statusSeen .forcedParity) = false) (he : (s.dline i).errs = 0)
    (bus : List BusReq) (va : DWord) (pa : PAddr) :
    (drained s bus).writeBackInvalidate i va pa =
      .ok () (replaced (evicted (drained s bus) i) i ((s.dline i).retag (s.dline i).tag 0)) := by
  have hline : (evicted (drained s bus) i).dline i = s.dline i := by rw [evicted_rest]; rfl
  have hoff : stCE ((replaced (evicted (drained s bus) i) i ((s.dline i).retag (s.dline i).tag 0)).statusSeen
      .forcedParity) = false :=
    (congrArg stCE (evicted_statusSeen (drained s bus) i .forcedParity)).trans hce
  unfold State.writeBackInvalidate
  rw [evict_good (s := drained s bus) rfl he]
  dsimp only [Res.bind]
  rw [show ((evicted (drained s bus) i).breakLink i).dline i = s.dline i from hline]
  exact congrArg _ (forceD_off hoff i va)

/-! ### The line of the Index operations -/

/-- The machine after an Index Load Tag. -/
def tagLoaded (s : State) (bus : List BusReq) (tagLo ecc : Word) : State :=
  { drained s bus with cp0 := { s.cp0 with tagLo := tagLo, ecc := ecc } }

/-- Index Load Tag fills TagLo and ECC (22_caches R245). -/
theorem loadTag_fields (hf : s.cfg.tagLo.ok = true) (bus : List BusReq) (tag : BitVec 24) (state : BitVec 2)
    (fifo par : Bool) (ecc : BitVec 8) :
    ∃ w, (drained s bus).loadTag tag state fifo par ecc = (tagLoaded s bus w (ecc.setWidth 32)).done ∧
      w.toNat / 256 = tag.toNat ∧ w.toNat / 2 ^ s.cfg.tagLo.pState.toNat % 4 = state.toNat ∧
      w.getLsbD s.cfg.tagLo.fifo.toNat = fifo ∧ w.getLsbD s.cfg.tagLo.par.toNat = par :=
  ⟨_, rfl, tagOf_word .., word_fields _ _ _ _ _ hf⟩

/-- It changes nothing else. -/
theorem tagLoaded_flushed (s : State) (bus : List BusReq) (w ecc : Word) :
    let t := (tagLoaded s bus w ecc).retire
    Flushed s t ∧ t.cp0.status = s.cp0.status ∧ t.wbuf = [] ∧ t.llbit = s.llbit ∧ t.dcache = s.dcache ∧
      t.icache = s.icache := by
  refine ⟨flushed_of (drained_emptied s bus) (fun _ => .inl) rfl, ?_, ?_, ?_, ?_, ?_⟩
  · rw [retire_status]; rfl
  · rw [retire_wbuf]; rfl
  · rw [retire_llbit]; rfl
  · rw [retire_dcache]; rfl
  · rw [retire_icache]; rfl

/-- The parity bits of a doubleword of a line: bit `j` is byte lane `j`, which a big-endian memory counts from the
other end (22_caches R245). -/
theorem getLsbD_dwordParity (l : DLine) (be : Bool) (d : Nat) {j : Nat} (hj : j < 8) :
    (l.dwordParity be d).getLsbD j = l.par.getLsbD (d * 8 + if be then 7 - j else j) := by
  rw [DLine.dwordParity, getLsbD_foldl_putBit _ _ (Nat.le_refl 8), if_pos hj, Nat.mul_comm 8 d]
  rfl

/-- Index Store Tag gives a line the tag and state of TagLo; a valid line has good tag parity then (22_caches R246). -/
theorem storeTag_line (s : State) (bus : List BusReq) (va : DWord) :
    let i := indexOf va
    ∃ l, (drained s bus).cacheIndexStoreTagD va = (replaced (drained s bus) i l).done ∧
      l.tag.toNat = s.cp0.tagLo.toNat / 256 ∧
      l.state.toNat = s.cp0.tagLo.toNat / 2 ^ s.cfg.tagLo.pState.toNat % 4 ∧ l.data = (s.dline i).data ∧
      l.par = (s.dline i).par ∧ l.tagGood = ((s.dline i).wPar == (s.dline i).w || l.state != 0) := by
  intro i
  refine ⟨_, rfl, ?_⟩
  split
  · rename_i h0
    refine ⟨toNat_tagField _, stateOf_toNat _ _, rfl, rfl, ?_⟩
    rw [h0]
    simp [DLine.tagGood, DLine.retag]
    rfl
  · rename_i h0
    refine ⟨toNat_tagField _, stateOf_toNat _ _, rfl, rfl, ?_⟩
    simp [DLine.tagGood, DLine.retag, DLine.setW]
    exact .inr h0

/-! ### The line of the Hit operations -/

/-- Hit Write-Back cleans the line it writes back (22_caches R255). -/
def cleaned (s : State) (bus : List BusReq) (i : Nat) : State :=
  if (s.dline i).w then (lineQueued (drained s bus) i true).putDline i ((s.dline i).setW false) else drained s bus

theorem cleaned_flushed (s : State) (bus : List BusReq) (i : Nat) (hit : Bool) :
    Flushed s ((cleaned s bus i).setCH hit).retire := by
  unfold cleaned
  split
  · exact flushed_of ((drained_emptied s bus).lineQueued i true) (fun _ hx => .inl hx) rfl
  · exact flushed_of (drained_emptied s bus) (fun _ hx => .inl hx) rfl

theorem cleaned_line (hd : sparseWf DLine.zero s.dcache = true) (bus : List BusReq) (i : Nat) :
    s.onlyD (cleaned s bus i) i ∧
    (cleaned s bus i).dline i = (if (s.dline i).w then (s.dline i).setW false else s.dline i) ∧
    (cleaned s bus i).llbit = s.llbit ∧ s.keepsTags (cleaned s bus i) ∧
    s.wroteBack (cleaned s bus i) i (s.dline i).w true ∧ (cleaned s bus i).cp0.status = s.cp0.status := by
  unfold cleaned
  split
  · rename_i hw
    obtain ⟨honly, hline⟩ := putDline_only hd ((drained_emptied s bus).lineQueued i true) i ((s.dline i).setW false)
    refine ⟨honly, hline, rfl, ⟨rfl, rfl⟩, ?_, rfl⟩
    rw [State.wroteBack, if_pos hw]
    rfl
  · rename_i hw
    refine ⟨⟨fun _ _ => rfl, rfl⟩, rfl, rfl, ⟨rfl, rfl⟩, ?_, rfl⟩
    rw [State.wroteBack, if_neg hw]
    rfl

/-- Hit Write-Back on a line without a parity error. -/
theorem hitWriteBackD_good (hce : stCE (s.statusSeen .forcedParity) = false) (he : (s.dline i).errs = 0)
    (hline : s.dLookup va pa = some i) (bus : List BusReq) :
    (drained s bus).cacheHitWriteBackD va pa = ((cleaned s bus i).setCH true).done := by
  have hfound : (drained s bus).dLookup va pa = some i := hline
  have hback : (if ((drained s bus).dline i).w then
      ((drained s bus).writeBack va pa i true).bind fun _ s1 => .ok () (s1.putDline i ((s1.dline i).setW false))
      else .ok () (drained s bus)) = Res.ok () (cleaned s bus i) := by
    rw [writeBack_good (s := drained s bus) rfl he, cleaned]
    split
    · rw [if_pos (by assumption)]; rfl
    · rw [if_neg (by assumption)]
  have hseen : stCE ((cleaned s bus i).statusSeen .forcedParity) = false := by
    rw [← hce]
    unfold cleaned
    split <;> rfl
  simp only [State.cacheHitWriteBackD, hfound]
  rw [hback]
  simp only [Res.finish, forceD_off hseen]

/-! ### The operations -/

/-- Line `i` is invalid, and LLbit cleared if it was the linked one. -/
def LeftInvalid (s t : State) (i : Nat) : Prop :=
  s.onlyD t i ∧ t.dline i = (s.dline i).retag (s.dline i).tag 0 ∧ t.llbit = (s.llbit && !s.linked i) ∧ s.keepsTags t

/-- Neither the end of the instruction nor Status.CH changes that. -/
theorem leftInvalid_retire (s v : State) (i : Nat) : LeftInvalid s v.retire i ↔ LeftInvalid s v i := by
  rw [retire_rest]
  rfl

theorem leftInvalid_setCH (s v : State) (i : Nat) (hit : Bool) :
    LeftInvalid s (v.setCH hit) i ↔ LeftInvalid s v i := Iff.rfl

theorem replaced_leftInvalid (hd : sparseWf DLine.zero s.dcache = true) (hu : Emptied s u) (i : Nat) :
    LeftInvalid s (replaced u i ((s.dline i).retag (s.dline i).tag 0)) i :=
  replaced_only hd hu i _

/-- Index Write-Back Invalidate (22_caches R244). -/
theorem indexWriteBackD_done (hd : sparseWf DLine.zero s.dcache = true)
    (hce : stCE (s.statusSeen .forcedParity) = false) (hi : indexOf va = i) (he : (s.dline i).errs = 0)
    (bus : List BusReq) (pa : PAddr) : OpDone ((drained s bus).cacheIndexWriteBackD va pa) fun t =>
      (Flushed s t ∧ t.cp0.status = s.cp0.status) ∧ LeftInvalid s t i ∧ s.wroteBack t i (s.modified i) false := by
  have hevict := (drained_emptied s bus).evicted i
  refine .of_done (v := replaced (evicted (drained s bus) i) i ((s.dline i).retag (s.dline i).tag 0)) ?_
    ⟨⟨replaced_flushed hevict i _, ?_⟩, (leftInvalid_retire ..).mpr (replaced_leftInvalid hd hevict i), ?_⟩
  · rw [State.cacheIndexWriteBackD, hi, writeBackInvalidate_good hce he]
    rfl
  · rw [retire_status, hevict.rest]; rfl
  · exact (wroteBack_retire ..).mpr (evicted_wroteBack s bus i)

/-- Index Load Tag (22_caches R245). -/
theorem indexLoadTagD_done (hf : s.cfg.tagLo.ok = true) (hi : indexOf va = i) (bus : List BusReq) :
    OpDone ((drained s bus).cacheIndexLoadTagD va) fun t =>
      (Flushed s t ∧ t.cp0.status = s.cp0.status) ∧ t.wbuf = [] ∧ t.llbit = s.llbit ∧ t.dcache = s.dcache ∧
      t.icache = s.icache ∧ t.cp0.tagLo.toNat / 256 = (s.dline i).tag.toNat ∧
      t.cp0.tagLo.toNat / 2 ^ s.cfg.tagLo.pState.toNat % 4 = (s.dline i).state.toNat ∧
      t.cp0.tagLo.getLsbD s.cfg.tagLo.fifo.toNat = (s.dline i).fifo ∧
      t.cp0.tagLo.getLsbD s.cfg.tagLo.par.toNat = (s.dline i).tagPar ∧ t.cp0.ecc.toNat < 256 ∧
      ∀ j < 8, t.cp0.ecc.getLsbD j =
        (s.dline i).par.getLsbD (va.toNat / 8 % 4 * 8 + if s.cfg.bigEndian then 7 - j else j) := by
  obtain ⟨w, hload, htag, hstate, hfifo, hpar⟩ := loadTag_fields hf bus (s.dline i).tag (s.dline i).state
    (s.dline i).fifo (s.dline i).tagPar ((s.dline i).dwordParity s.cfg.bigEndian (dwordOf va))
  obtain ⟨hflush, hstatus, hbuf, hll, hdc, hic⟩ := tagLoaded_flushed s bus w
    (((s.dline i).dwordParity s.cfg.bigEndian (dwordOf va)).setWidth 32)
  refine .of_done (by rw [State.cacheIndexLoadTagD, hi]; exact hload) ⟨⟨hflush, hstatus⟩, hbuf, hll, hdc, hic, ?_⟩
  rw [retire_tagLo, retire_ecc]
  refine ⟨htag, hstate, hfifo, hpar, ?_, fun j hj => ?_⟩
  · have hlt := ((s.dline i).dwordParity s.cfg.bigEndian (dwordOf va)).isLt
    simp only [tagLoaded, BitVec.toNat_setWidth]
    omega
  · simp only [tagLoaded, BitVec.getLsbD_setWidth, show j < 32 by omega, decide_true, Bool.true_and]
    rw [getLsbD_dwordParity _ _ _ hj, dwordOf_eq]

/-- Index Store Tag (22_caches R246). -/
theorem indexStoreTagD_done (hd : sparseWf DLine.zero s.dcache = true) (hi : indexOf va = i) (bus : List BusReq) :
    OpDone ((drained s bus).cacheIndexStoreTagD va) fun t =>
      (Flushed s t ∧ t.cp0.status = s.cp0.status) ∧ t.wbuf = [] ∧ s.onlyD t i ∧
      (t.llbit = (s.llbit && !s.linked i) ∧ s.keepsTags t) ∧
      (t.dline i).tag.toNat = s.cp0.tagLo.toNat / 256 ∧
      (t.dline i).state.toNat = s.cp0.tagLo.toNat / 2 ^ s.cfg.tagLo.pState.toNat % 4 ∧
      (t.dline i).data = (s.dline i).data ∧ (t.dline i).par = (s.dline i).par ∧
      (t.dline i).tagGood = ((s.dline i).wPar == (s.dline i).w || (t.dline i).state != 0) := by
  have hdrain := drained_emptied s bus
  obtain ⟨l, hop, htag, hstate, hdata, hpar, hgood⟩ := storeTag_line s bus va
  rw [hi] at hop hdata hpar hgood
  obtain ⟨honly, hnew, hll, htags⟩ := replaced_only hd hdrain i l
  refine .of_done hop ⟨⟨replaced_flushed hdrain i _, ?_⟩, ?_, (onlyD_retire ..).mpr honly,
    ⟨(retire_llbit _).trans hll, (keepsTags_retire ..).mpr htags⟩, ?_⟩
  · rw [retire_status]; rfl
  · rw [retire_wbuf]; rfl
  · rw [retire_dline, hnew]
    exact ⟨htag, hstate, hdata, hpar, hgood⟩

/-- Create Dirty Exclusive, on a hit (22_caches R247). -/
theorem createDirty_hit (hd : sparseWf DLine.zero s.dcache = true) (hline : s.dLookup va pa = some i)
    (bus : List BusReq) : OpDone ((drained s bus).cacheCreateDirty va pa) fun t =>
      (Flushed s t ∧ t.cp0.status = s.cp0.status) ∧ (t.wbuf = [] ∧ t.llbit = s.llbit ∧ s.keepsTags t) ∧ s.onlyD t i ∧
      t.dline i = (s.dline i).retag (tagOf pa) 3 := by
  have hfound : (drained s bus).dLookup va pa = some i := hline
  have hdrain := drained_emptied s bus
  obtain ⟨honly, hnew⟩ := putDline_only hd hdrain i ((s.dline i).retag (tagOf pa) 3)
  refine .of_done (v := (drained s bus).putDline i ((s.dline i).retag (tagOf pa) 3)) ?_
    ⟨⟨flushed_of hdrain (fun _ => .inl) rfl, ?_⟩, ⟨?_, ?_, (keepsTags_retire ..).mpr ⟨rfl, rfl⟩⟩,
      (onlyD_retire ..).mpr honly, (retire_dline ..).trans hnew⟩
  · rw [State.cacheCreateDirty, hfound]
    rfl
  · rw [retire_status]; rfl
  · rw [retire_wbuf]; rfl
  · rw [retire_llbit]; rfl

/-- Create Dirty Exclusive, on a miss: it replaces a line of the set (22_caches R247). -/
theorem createDirty_miss (hd : sparseWf DLine.zero s.dcache = true) (hmiss : s.dLookup va pa = none)
    (hv : s.victim false va = i) (he : (s.dline i).errs = 0) (bus : List BusReq) :
    OpDone ((drained s bus).cacheCreateDirty va pa) fun t =>
      (Flushed s t ∧ t.cp0.status = s.cp0.status) ∧ s.onlyD t i ∧
      t.dline i = ((s.dline i).retag (tagOf pa) 3).setW false ∧ s.wroteBack t i (s.modified i) false ∧
      t.llbit = (s.llbit && !s.linked i) ∧ s.keepsTags t := by
  have hfound : (drained s bus).dLookup va pa = none := hmiss
  have hvictim : (drained s bus).victim false va = i := hv
  have hevict := (drained_emptied s bus).evicted i
  have hold : ((evicted (drained s bus) i).breakLink i).dline i = s.dline i := by rw [hevict.rest]; rfl
  obtain ⟨honly, hnew, hll, htags⟩ := replaced_only hd hevict i (((s.dline i).retag (tagOf pa) 3).setW false)
  refine .of_done (v := replaced (evicted (drained s bus) i) i (((s.dline i).retag (tagOf pa) 3).setW false)) ?_
    ⟨⟨replaced_flushed hevict i _, ?_⟩, (onlyD_retire ..).mpr honly, (retire_dline ..).trans hnew,
      (wroteBack_retire ..).mpr (evicted_wroteBack s bus i), (retire_llbit _).trans hll,
      (keepsTags_retire ..).mpr htags⟩
  · rw [State.cacheCreateDirty, hfound]
    dsimp only
    rw [hvictim, evict_good (s := drained s bus) rfl he, Res.finish, hold]
    rfl
  · rw [retire_status, hevict.rest]; rfl

/-- Hit Invalidate, on a hit (22_caches R248). -/
theorem hitInvalidateD_hit (hd : sparseWf DLine.zero s.dcache = true) (hline : s.dLookup va pa = some i)
    (bus : List BusReq) : OpDone ((drained s bus).cacheHitInvalidateD va pa) fun t =>
      Flushed s t ∧ t.wbuf = [] ∧ LeftInvalid s t i ∧ s.ranCH t true := by
  have hfound : (drained s bus).dLookup va pa = some i := hline
  have hdrain := drained_emptied s bus
  refine .of_done (v := (replaced (drained s bus) i ((s.dline i).retag (s.dline i).tag 0)).setCH true) ?_
    ⟨flushed_of hdrain (fun _ => .inl) rfl, ?_,
      (leftInvalid_retire ..).mpr ((leftInvalid_setCH ..).mpr (replaced_leftInvalid hd hdrain i)),
      (ranCH_retire ..).mpr (setCH_ranCH (v := replaced (drained s bus) i _) rfl true)⟩
  · rw [State.cacheHitInvalidateD, hfound]
    rfl
  · rw [retire_wbuf]; rfl

/-- Hit Write-Back Invalidate, on a hit (22_caches R256). -/
theorem hitWriteBackInvalidate_hit (hd : sparseWf DLine.zero s.dcache = true)
    (hce : stCE (s.statusSeen .forcedParity) = false) (hline : s.dLookup va pa = some i)
    (he : (s.dline i).errs = 0) (bus : List BusReq) :
    OpDone ((drained s bus).cacheHitWriteBackInvalidate va pa) fun t =>
      Flushed s t ∧ LeftInvalid s t i ∧ s.ranCH t true ∧ s.wroteBack t i (s.modified i) false := by
  have hfound : (drained s bus).dLookup va pa = some i := hline
  have hevict := (drained_emptied s bus).evicted i
  refine .of_done
    (v := (replaced (evicted (drained s bus) i) i ((s.dline i).retag (s.dline i).tag 0)).setCH true) ?_
    ⟨flushed_of hevict (fun _ => .inl) rfl,
      (leftInvalid_retire ..).mpr ((leftInvalid_setCH ..).mpr (replaced_leftInvalid hd hevict i)),
      (ranCH_retire ..).mpr (setCH_ranCH ?_ true), (wroteBack_retire ..).mpr (evicted_wroteBack s bus i)⟩
  · rw [State.cacheHitWriteBackInvalidate, hfound]
    dsimp only
    rw [writeBackInvalidate_good hce he]
    rfl
  · rw [hevict.rest]; rfl

/-- Hit Write-Back, on a hit (22_caches R255). -/
theorem hitWriteBackD_hit (hd : sparseWf DLine.zero s.dcache = true)
    (hce : stCE (s.statusSeen .forcedParity) = false) (hline : s.dLookup va pa = some i)
    (he : (s.dline i).errs = 0) (bus : List BusReq) : OpDone ((drained s bus).cacheHitWriteBackD va pa) fun t =>
      Flushed s t ∧ s.onlyD t i ∧ t.dline i = (if (s.dline i).w then (s.dline i).setW false else s.dline i) ∧
      t.llbit = s.llbit ∧ s.keepsTags t ∧ s.wroteBack t i (s.dline i).w true ∧ s.ranCH t true := by
  obtain ⟨honly, hnew, hll, htags, hwrote, hstatus⟩ := cleaned_line hd bus i
  exact .of_done (hitWriteBackD_good hce he hline bus) ⟨cleaned_flushed s bus i true, (onlyD_retire ..).mpr honly,
    (retire_dline ..).trans hnew, (retire_llbit _).trans hll, (keepsTags_retire ..).mpr htags,
    (wroteBack_retire ..).mpr hwrote, (ranCH_retire ..).mpr (setCH_ranCH hstatus true)⟩

/-- A Hit operation that finds no line. -/
theorem hitD_miss (hmiss : s.dLookup va pa = none) {op : BitVec 5} (hop : op ∈ ([0x11, 0x15, 0x19] : List (BitVec 5)))
    (bus : List BusReq) : (drained s bus).cacheOp op va pa = ((drained s bus).setCH false).done := by
  have hfound : (drained s bus).dLookup va pa = none := hmiss
  simp only [List.mem_cons, List.not_mem_nil, or_false] at hop
  rcases hop with rfl | rfl | rfl
  · show State.cacheHitInvalidateD _ _ _ = _
    rw [State.cacheHitInvalidateD, hfound]
  · show State.cacheHitWriteBackInvalidate _ _ _ = _
    rw [State.cacheHitWriteBackInvalidate, hfound]
  · show State.cacheHitWriteBackD _ _ _ = _
    rw [State.cacheHitWriteBackD, hfound]

end

/-- Settles O42: each operation of the data cache, after the write buffer has drained. -/
theorem cacheDataOps : Obligations.CacheDataOps := by
  intro s base offset pa attr i va set l f flushed quietly kept unlinked left hcop hwf hmaps hattr hq hf hce he
  obtain ⟨-, hd, -⟩ := hwf
  obtain ⟨bus, hexec⟩ := exec_cache hcop hmaps.1 hattr hq
  have runs : ∀ {op : BitVec 5} {p : State → Prop},
      OpDone ((drained s bus).cacheOp op va pa) p → s.completes (.cache base op offset) p :=
    fun ⟨t, ht, hp⟩ => ⟨t, (hexec _).trans ht, hp⟩
  refine ⟨fun hi => ?_, fun hline => ?_, fun hmiss op hop => ?_, fun hmiss herrs => ?_⟩
  · have hindex : indexOf va = i := (indexOf_eq va).trans hi.symm
    exact ⟨runs (indexWriteBackD_done hd hce hindex he bus pa), runs (indexLoadTagD_done hf hindex bus),
      runs (indexStoreTagD_done hd hindex bus)⟩
  · exact ⟨runs (createDirty_hit hd hline bus), runs (hitInvalidateD_hit hd hline bus),
      runs (hitWriteBackInvalidate_hit hd hce hline he bus), runs (hitWriteBackD_hit hd hce hline he bus)⟩
  · exact runs (.of_done (hitD_miss hmiss hop bus) (setCH_flushed s bus false))
  · obtain ⟨t, ht, hquiet, hrest⟩ := createDirty_miss hd hmiss rfl (herrs _) bus
    exact runs ⟨t, ht, hquiet, _, victim_eq s false va, hrest⟩

end Sys2Proof.Proofs

/-! ## Proofs: CACHE on the instruction cache (O43) -/

namespace Sys2Proof.Proofs
open Sys2Proof.Machine

/-! ### Parity of words and of bytes -/

/-- The exclusive or of the first `n` of a row of bits. -/
def xorBits (f : Nat → Bool) (n : Nat) : Bool := (List.range n).foldl (fun p i => p ^^ f i) false

theorem xorBits_succ (f : Nat → Bool) (n : Nat) : xorBits f (n + 1) = (xorBits f n ^^ f n) := by
  simp only [xorBits, List.range_succ, List.foldl_append, List.foldl_cons, List.foldl_nil]

/-- It can be taken in two parts. -/
theorem xorBits_add (f : Nat → Bool) (m n : Nat) :
    xorBits f (m + n) = (xorBits f m ^^ xorBits (fun i => f (m + i)) n) := by
  induction n with
  | zero => simp [xorBits]
  | succ n ih => rw [← Nat.add_assoc, xorBits_succ, xorBits_succ, ih, Bool.xor_assoc]

theorem xorBits_congr {f g : Nat → Bool} {n : Nat} (h : ∀ i < n, f i = g i) : xorBits f n = xorBits g n := by
  induction n with
  | zero => rfl
  | succ n ih => rw [xorBits_succ, xorBits_succ, ih fun i hi => h i (by omega), h n (by omega)]

/-- It can be taken byte by byte. -/
theorem xorBits_bytes (f : Nat → Bool) (m : Nat) :
    xorBits f (8 * m) = xorBits (fun j => xorBits (fun i => f (8 * j + i)) 8) m := by
  induction m with
  | zero => rfl
  | succ m ih => rw [Nat.mul_succ, xorBits_add, ih, xorBits_succ _ m]

/-- The parity of a field of a line. -/
theorem parity_extract {m : Nat} (d : BitVec m) (a n : Nat) :
    parity (d.extractLsb' a n) = xorBits (fun i => d.getLsbD (a + i)) n :=
  xorBits_congr fun i hi => by rw [BitVec.getLsbD_extractLsb', decide_eq_true hi, Bool.true_and]

/-- The parity of a word is that of the parity bits of its bytes (22_caches R237). -/
theorem parity_word (d : LineData) (k : Nat) :
    parity (d.extractLsb' (32 * k) 32) = xorBits (fun j => parity (lineByte d (4 * k + j))) 4 := by
  rw [parity_extract]
  refine (xorBits_bytes _ 4).trans (xorBits_congr fun j _ => ?_)
  rw [lineByte, parity_extract]
  exact xorBits_congr fun i _ => by congr 1; omega

/-- The word parities made from byte parities are those of the words. -/
theorem wordPar_getLsbD {d : LineData} {par : BitVec 32} (h : ∀ k < 32, par.getLsbD k = parity (lineByte d k))
    {k : Nat} (hk : k < 8) : (wordPar par).getLsbD k = parity (d.extractLsb' (32 * k) 32) := by
  rw [wordPar, getLsbD_foldl_putBit _ _ (Nat.le_refl 8), if_pos hk, parity_word, parity_extract]
  exact xorBits_congr fun j hj => h _ (by omega)

/-- A line in whose bytes no doubleword shows an error has the parity of its bytes. -/
theorem par_of_lineErrs {d : LineData} {par : BitVec 32} (h : lineErrs d par = 0) : par = byteParities d := by
  refine BitVec.eq_of_getLsbD_eq fun k hk => ?_
  have hbit : (lineErrs d par).getLsbD (k / 8) = false := by rw [h]; exact BitVec.getLsbD_zero
  rw [lineErrs, getLsbD_foldl_putBit _ _ (Nat.le_refl 4), if_pos (by omega), bne_eq_false_iff_eq] at hbit
  have hxor : ((par ^^^ byteParities d).extractLsb' (8 * (k / 8)) 8).getLsbD (k % 8) = false := by
    rw [hbit]; exact BitVec.getLsbD_zero
  rw [BitVec.getLsbD_extractLsb', Nat.div_add_mod, BitVec.getLsbD_xor] at hxor
  simpa [Nat.mod_lt k (by decide : 0 < 8)] using hxor

section
variable {s u : State} {va : DWord} {pa : PAddr} {i : Nat}

/-! ### Forced parity is off -/

/-- A bit of a CP0 register as it is seen depends on that bit of its value alone. -/
theorem cp0Seen_getLsbD_congr (s : State) (r : Reg) (who : Reader) {a b : DWord} {m : Nat}
    (h : a.getLsbD m = b.getLsbD m) : (s.cp0Seen r who a).getLsbD m = (s.cp0Seen r who b).getLsbD m := by
  unfold State.cp0Seen
  generalize s.hist = l
  induction l generalizing a b with
  | nil => exact h
  | cons x l ih =>
    refine ih ?_
    dsimp only
    split
    · split
      · rfl
      · exact h
    · exact h

/-- Status.CH does not change how Status.CE reads. -/
theorem setCH_forced (u : State) (hit : Bool) (who : Reader) :
    stCE ((u.setCH hit).statusSeen who) = stCE (u.statusSeen who) := by
  have hbit : (zext64 (u.setCH hit).cp0.status).getLsbD 17 = (zext64 u.cp0.status).getLsbD 17 := by
    rw [zext64, zext64, BitVec.getLsbD_setWidth, BitVec.getLsbD_setWidth, State.setCH, getLsbD_putBit _ (by decide),
      if_neg (by decide)]
  have hseen := cp0Seen_getLsbD_congr u 12 who hbit
  simp only [stCE, State.statusSeen, low32, BitVec.getLsbD_setWidth] at hseen ⊢
  exact congrArg _ hseen

theorem forceI_off (hce : stCE (s.statusSeen .forcedParity) = false) (i : Nat) (va : DWord) : s.forceI i va = s := by
  rw [State.forceI, hce]
  rfl

/-! ### The machine an operation leaves -/

/-- An operation of the instruction cache has ended; LLbit and the data cache are as before. -/
def FlushedI (s t : State) : Prop :=
  t.mem = s.settledMem ∧ s.onlyCaches t ∧ s.Continued t ∧ t.llbit = s.llbit ∧ t.dcache = s.dcache

theorem Flushed.instr {t : State} (h : Flushed s t) (hl : t.llbit = s.llbit) (hd : t.dcache = s.dcache) :
    FlushedI s t := by
  obtain ⟨hmem, honly, hcont⟩ := h
  exact ⟨hmem, honly, hcont, hl, hd⟩

/-- An operation that puts `l` in the place of line `i` of the instruction cache, and may write Status.CH. -/
theorem changeI_flushed (hu : Emptied s u) (i : Nat) (l : ILine) {v : State}
    (hv : v = u.changeI i l ∨ ∃ hit, v = (u.changeI i l).setCH hit) : FlushedI s v.retire := by
  have hdata : v.llbit = s.llbit ∧ v.dcache = s.dcache := by
    rcases hv with rfl | ⟨hit, rfl⟩ <;> rw [hu.rest] <;> exact ⟨rfl, rfl⟩
  refine Flushed.instr (flushed_of hu ?_ ?_) ((retire_llbit v).trans hdata.1) ((retire_dcache v).trans hdata.2)
  · rcases hv with rfl | ⟨hit, rfl⟩ <;> exact changeI_late u i l
  · rcases hv with rfl | ⟨hit, rfl⟩ <;> rfl

/-- An operation that puts `l` in the place of line `i` and does nothing else. -/
theorem changeI_done (hi : sparseWf ILine.zero s.icache = true) (bus : List BusReq) (i : Nat) (l : ILine) :
    let t := ((drained s bus).changeI i l).retire
    (FlushedI s t ∧ t.wbuf = [] ∧ t.cp0.status = s.cp0.status) ∧ s.keepsTags t ∧ s.onlyI t i ∧ t.iline i = l := by
  have hdrain := drained_emptied s bus
  obtain ⟨honly, hnew⟩ := changeI_only hi hdrain i l
  refine ⟨⟨changeI_flushed hdrain i l (.inl rfl), ?_, ?_⟩, (keepsTags_retire ..).mpr ⟨rfl, rfl⟩,
    (onlyI_retire ..).mpr honly, (retire_iline ..).trans hnew⟩
  · rw [retire_wbuf]; rfl
  · rw [retire_status]; rfl

/-- Instruction line `i` stands in the write buffer, alone. -/
def instrLineQueued (s : State) (i : Nat) : State :=
  let at_ := s.lineAddr (s.iline i).tag i
  { s with
    wbuf := [.line at_ (s.iline i).data (s.iline i).bytePar true (true, i)]
    hist := { age := 0, what := .code at_ 32 (memLine s.mem at_) } :: s.hist }

theorem Emptied.instrLineQueued (h : Emptied s u) (i : Nat) : Emptied s (instrLineQueued u i) where
  mem := h.mem
  late x hx := by
    rcases List.mem_cons.mp hx with rfl | hx
    · exact .inr rfl
    · exact h.late x hx
  rest := by rw [Proofs.instrLineQueued, h.rest]

/-! ### The operations -/

theorem validPState_ne_zero (s : State) : s.validPState ≠ 0 := by
  rw [State.validPState]
  split
  · decide
  · assumption

/-- Index Invalidate (22_caches R243). -/
theorem indexInvalidateI_done (hic : sparseWf ILine.zero s.icache = true) (hi : indexOf va = i) (bus : List BusReq)
    (pa : PAddr) : OpDone ((drained s bus).cacheIndexInvalidateI va pa) fun t =>
      (FlushedI s t ∧ t.wbuf = [] ∧ t.cp0.status = s.cp0.status) ∧ s.keepsTags t ∧ s.onlyI t i ∧
      t.iline i = (s.iline i).retag (tagOf pa) false :=
  .of_done (by rw [State.cacheIndexInvalidateI, hi]; rfl) (changeI_done hic bus i _)

/-- Index Load Tag: a valid line has an open PState that is not Invalid (22_caches R245). -/
theorem indexLoadTagI_done (hf : s.cfg.tagLo.ok = true) (hi : indexOf va = i) (bus : List BusReq) :
    OpDone ((drained s bus).cacheIndexLoadTagI va) fun t =>
      (FlushedI s t ∧ t.wbuf = [] ∧ t.cp0.status = s.cp0.status) ∧ t.icache = s.icache ∧
      t.cp0.tagLo.toNat / 256 = (s.iline i).tag.toNat ∧
      (t.cp0.tagLo.toNat / 2 ^ s.cfg.tagLo.pState.toNat % 4 = 0 ↔ (s.iline i).valid = false) ∧
      t.cp0.tagLo.getLsbD s.cfg.tagLo.fifo.toNat = (s.iline i).fifo ∧
      t.cp0.tagLo.getLsbD s.cfg.tagLo.par.toNat = (s.iline i).tagPar := by
  obtain ⟨w, hload, htag, hstate, hfifo, hpar⟩ := loadTag_fields hf bus (s.iline i).tag
    (if (s.iline i).valid then (drained s bus).validPState else 0) (s.iline i).fifo (s.iline i).tagPar
    (((drained s bus).freeWord .loadTagEcc).setWidth 8)
  obtain ⟨hflush, hstatus, hbuf, hll, hdc, hic⟩ := tagLoaded_flushed s bus w
    ((((drained s bus).freeWord .loadTagEcc).setWidth 8).setWidth 32)
  refine .of_done (by rw [State.cacheIndexLoadTagI, hi]; exact hload) ⟨⟨hflush.instr hll hdc, hbuf, hstatus⟩, hic, ?_⟩
  rw [retire_tagLo]
  refine ⟨htag, ?_, hfifo, hpar⟩
  rw [show (tagLoaded s bus w _).cp0.tagLo = w from rfl, hstate]
  have hvalid := validPState_ne_zero (drained s bus)
  cases (s.iline i).valid
  · simp
  · simp only [if_true, Bool.true_eq_false, iff_false]
    exact fun h => hvalid (BitVec.eq_of_toNat_eq h)

/-- The line an Index Store Tag leaves. -/
def storedTag (s : State) (i : Nat) : ILine :=
  { s.iline i with fifo := s.storeFifo true (s.iline i).fifo }.retag (s.cp0.tagLo.extractLsb' 8 24)
    (s.cfg.tagLo.stateOf s.cp0.tagLo != 0)

theorem storedTag_valid (s : State) (i : Nat) :
    (storedTag s i).valid = true ↔ s.cp0.tagLo.toNat / 2 ^ s.cfg.tagLo.pState.toNat % 4 ≠ 0 := by
  rw [← stateOf_toNat, storedTag, ILine.retag, bne_iff_ne, ne_eq, BitVec.toNat_eq]
  rfl

/-- Index Store Tag (22_caches R246). -/
theorem indexStoreTagI_done (hic : sparseWf ILine.zero s.icache = true) (hi : indexOf va = i) (bus : List BusReq) :
    OpDone ((drained s bus).cacheIndexStoreTagI va) fun t =>
      (FlushedI s t ∧ t.wbuf = [] ∧ t.cp0.status = s.cp0.status) ∧ s.keepsTags t ∧ s.onlyI t i ∧
      (t.iline i).tag.toNat = s.cp0.tagLo.toNat / 256 ∧ (t.iline i).data = (s.iline i).data ∧
      ((t.iline i).valid = true ↔ s.cp0.tagLo.toNat / 2 ^ s.cfg.tagLo.pState.toNat % 4 ≠ 0) := by
  obtain ⟨hquiet, htags, honly, hline⟩ := changeI_done hic bus i (storedTag s i)
  refine .of_done (v := (drained s bus).changeI i (storedTag s i)) ?_ ⟨hquiet, htags, honly, ?_⟩
  · rw [State.cacheIndexStoreTagI, hi]
    rfl
  · rw [hline]
    exact ⟨toNat_tagField _, rfl, storedTag_valid s i⟩

/-- The address of the line a Fill reads: the start of the line. -/
def fillAddr (pa : PAddr) : PAddr := pa.extractLsb' 5 31 ++ (0 : BitVec 5)

theorem fillAddr_eq (pa : PAddr) : fillAddr pa = BitVec.ofNat 36 (pa.toNat / 32 * 32) ∧
    (fillAddr pa).toNat / 32 = pa.toNat / 32 ∧ (fillAddr pa).extractLsb' 3 2 = 0 := by
  have hstart : (fillAddr pa).toNat = pa.toNat / 32 * 32 := by
    have := pa.isLt
    rw [fillAddr, BitVec.toNat_append, ← Nat.shiftLeft_add_eq_or_of_lt (BitVec.isLt _), BitVec.extractLsb'_toNat,
      Nat.shiftRight_eq_div_pow, Nat.shiftLeft_eq]
    show _ + (0#5).toNat = _
    simp only [BitVec.toNat_ofNat]
    omega
  refine ⟨BitVec.eq_of_toNat_eq ?_, by omega, BitVec.eq_of_toNat_eq ?_⟩
  · have := pa.isLt
    rw [hstart, BitVec.toNat_ofNat]
    omega
  · rw [toNat_lineDword, hstart]
    show _ = 0
    omega

/-- The instruction line a Fill brings from memory. -/
def filledLine (s : State) (pa : PAddr) : ILine :=
  newILine s.cfg.bigEndian 0 pa (s.pick .fillFifo)
    (s.response none s.settledMem true (fillAddr pa))

/-- A byte of it is the byte of memory. -/
theorem lineByte_filledLine (s : State) (pa : PAddr) {k : Nat} (hk : k < 32) :
    lineByte (filledLine s pa).data k = s.byteAt (pa.toNat / 32 * 32 + k) := by
  obtain ⟨-, hline, hdword⟩ := fillAddr_eq pa
  dsimp only [filledLine, newILine]
  rw [← hdword, lineByte_response s s.settledMem _ hk, hline]
  rfl

/-- Its parity is good. -/
theorem filledLine_wordGood (s : State) (pa : PAddr) {k : Nat} (hk : k < 8) :
    (filledLine s pa).wordGood k = true := by
  obtain ⟨-, -, hdword⟩ := fillAddr_eq pa
  rw [ILine.wordGood, beq_iff_eq]
  dsimp only [filledLine, newILine]
  rw [← hdword]
  exact wordPar_getLsbD (fun j hj => respPar_response s s.settledMem _ hj) hk

/-- Fill reads the line of memory that contains the address (22_caches R249). -/
theorem fill_done (hic : sparseWf ILine.zero s.icache = true) (hce : stCE (s.statusSeen .forcedParity) = false)
    (hi : indexOf va = i) (hk : s.cfg.kindAt (BitVec.ofNat 36 (pa.toNat / 32 * 32)) 32 = none) (hq : s.quiet)
    (bus : List BusReq) : OpDone ((drained s bus).cacheFill va pa) fun t =>
      (FlushedI s t ∧ t.wbuf = [] ∧ t.cp0.status = s.cp0.status) ∧ s.keepsTags t ∧ s.onlyI t i ∧
      (t.iline i).valid = true ∧ (t.iline i).tag.toNat = pa.toNat / 4096 ∧
      (∀ k < 8, (t.iline i).wordGood k = true) ∧
      ∀ k < 32, lineByte (t.iline i).data k = s.byteAt (pa.toNat / 32 * 32 + k) := by
  obtain ⟨-, hdma, hreply⟩ := hq
  obtain ⟨hstart, -⟩ := fillAddr_eq pa
  have hquiet : (drained s bus).quiet := ⟨fun _ he => absurd he List.not_mem_nil, hdma, hreply⟩
  have hplain : s.cfg.kindAt (fillAddr pa) 32 = none := by rw [hstart]; exact hk
  obtain ⟨bus', hread⟩ : ∃ bus', (drained s bus).busRead (.blockRead (fillAddr pa) false) (fillAddr pa) false
      (some (true, i)) = .ok (s.response none s.settledMem true (fillAddr pa)) (drained s bus') :=
    busRead_quiet hquiet (.blockRead (fillAddr pa) false) hplain _
  obtain ⟨hfrom, htags, honly, hline⟩ := changeI_done hic bus' i (filledLine s pa)
  have hnew : newILine (drained s bus).cfg.bigEndian 0 pa ((drained s bus).pick .fillFifo)
      (s.response none s.settledMem true (fillAddr pa)) = filledLine s pa := rfl
  have hseen : stCE (((drained s bus').changeI i (filledLine s pa)).statusSeen .forcedParity) = false := hce
  refine .of_done (v := (drained s bus').changeI i (filledLine s pa)) ?_ ⟨hfrom, htags, honly, ?_⟩
  · unfold State.cacheFill
    dsimp only
    rw [hi, ← fillAddr, hread, Res.finish]
    simp only [respError_response, Bool.false_eq_true, if_false]
    rw [hnew, forceI_off hseen, checkResponse_good _ (respError_response ..) (respBad_response ..)]
    rfl
  · rw [hline]
    exact ⟨rfl, toNat_tagOf pa, fun k hk => filledLine_wordGood s pa hk, fun k hk => lineByte_filledLine s pa hk⟩

/-- Hit Invalidate, on a hit (22_caches R243). -/
theorem hitInvalidateI_hit (hic : sparseWf ILine.zero s.icache = true) (hline : s.iHit va pa = some i)
    (bus : List BusReq) : OpDone ((drained s bus).cacheHitInvalidateI va pa) fun t =>
      FlushedI s t ∧ t.wbuf = [] ∧ s.keepsTags t ∧ s.onlyI t i ∧
      t.iline i = (s.iline i).retag (s.iline i).tag false ∧ s.ranCH t true := by
  have hfound : (drained s bus).iHit va pa = some i := hline
  have hdrain := drained_emptied s bus
  obtain ⟨honly, hnew⟩ := changeI_only hic hdrain i ((s.iline i).retag (s.iline i).tag false)
  refine .of_done (v := ((drained s bus).changeI i ((s.iline i).retag (s.iline i).tag false)).setCH true) ?_
    ⟨changeI_flushed hdrain i _ (.inr ⟨true, rfl⟩), ?_, (keepsTags_retire ..).mpr ⟨rfl, rfl⟩,
      (onlyI_retire ..).mpr honly, (retire_iline ..).trans hnew,
      (ranCH_retire ..).mpr (setCH_ranCH (v := (drained s bus).changeI i _) rfl true)⟩
  · rw [State.cacheHitInvalidateI, hfound]
    rfl
  · rw [retire_wbuf]; rfl

/-- A line without an error goes out with the parity of its bytes. -/
theorem bytePar_good {l : ILine} (h : l.errs = 0) : l.bytePar = byteParities l.data := par_of_lineErrs h

/-- Hit Write-Back, on a hit (22_caches R255). -/
theorem hitWriteBackI_hit (hce : stCE (s.statusSeen .forcedParity) = false) (hline : s.iHit va pa = some i)
    (he : (s.iline i).errs = 0) (bus : List BusReq) : OpDone ((drained s bus).cacheHitWriteBackI va pa) fun t =>
      FlushedI s t ∧ s.keepsTags t ∧ t.icache = s.icache ∧ s.ranCH t true ∧
      t.wbuf = [.line (s.lineAddr (s.iline i).tag i) (s.iline i).data (byteParities (s.iline i).data) true
        (true, i)] := by
  have hfound : (drained s bus).iHit va pa = some i := hline
  have hqueued := (drained_emptied s bus).instrLineQueued i
  have hpush : (drained s bus).pushLine ((drained s bus).lineAddr ((drained s bus).iline i).tag i)
      ((drained s bus).iline i).data ((drained s bus).iline i).bytePar true (true, i) =
      .ok () (instrLineQueued (drained s bus) i) := pushLine_of_empty rfl ..
  have hgood : ((drained s bus).iline i).errs = 0 := he
  have hseen : stCE (((instrLineQueued (drained s bus) i).setCH true).statusSeen .forcedParity) = false :=
    (setCH_forced ..).trans hce
  have hflush := flushed_of (v := (instrLineQueued (drained s bus) i).setCH true) hqueued (fun _ => .inl) rfl
  refine .of_done (v := (instrLineQueued (drained s bus) i).setCH true) ?_
    ⟨hflush.instr ?_ ?_, (keepsTags_retire ..).mpr ⟨rfl, rfl⟩, ?_,
      (ranCH_retire ..).mpr (setCH_ranCH (v := instrLineQueued (drained s bus) i) rfl true), ?_⟩
  · rw [State.cacheHitWriteBackI, hfound]
    dsimp only
    rw [hpush, if_pos hgood]
    simp only [Res.finish, State.checkParity]
    rw [forceI_off hseen]
  · rw [retire_llbit]; rfl
  · rw [retire_dcache]; rfl
  · rw [retire_icache]; rfl
  · rw [retire_wbuf, ← bytePar_good he]; rfl

/-- A Hit operation that finds no line. -/
theorem hitI_miss (hmiss : s.iHit va pa = none) {op : BitVec 5} (hop : op ∈ ([0x10, 0x18] : List (BitVec 5)))
    (bus : List BusReq) : (drained s bus).cacheOp op va pa = ((drained s bus).setCH false).done := by
  have hfound : (drained s bus).iHit va pa = none := hmiss
  simp only [List.mem_cons, List.not_mem_nil, or_false] at hop
  rcases hop with rfl | rfl
  · show State.cacheHitInvalidateI _ _ _ = _
    rw [State.cacheHitInvalidateI, hfound]
  · show State.cacheHitWriteBackI _ _ _ = _
    rw [State.cacheHitWriteBackI, hfound]

/-- The operation codes that name no operation (22_caches R257). -/
theorem cacheOp_undefined (s : State) (va : DWord) (pa : PAddr) :
    ∀ op ∈ ([2, 3, 6, 7, 10, 11, 12, 14, 15, 18, 19, 22, 23, 26, 27, 28, 29, 30, 31] : List (BitVec 5)),
      s.cacheOp op va pa = .refused .cacheOpUndefined := by
  simp only [List.forall_mem_cons, List.not_mem_nil, false_imp_iff, implies_true, and_true]
  and_intros <;> rfl

end

/-- Settles O43: each operation of the instruction cache, after the write buffer has drained, and the codes that are
refused. -/
theorem cacheInstrOps : Obligations.CacheInstrOps := by
  intro s base offset pa attr i va set l f start flushed quietly hcop hwf hmaps hq hf hce
  obtain ⟨-, -, hic, -⟩ := hwf
  obtain ⟨hx, -⟩ := hmaps
  refine ⟨fun hattr op => ?_, fun hattr => ?_⟩
  · subst hattr
    exact exec_cache_uncached hcop hx op
  · obtain ⟨bus, hexec⟩ := exec_cache hcop hx hattr hq
    have runs : ∀ {op : BitVec 5} {p : State → Prop},
        OpDone ((drained s bus).cacheOp op va pa) p → s.completes (.cache base op offset) p :=
      fun ⟨t, ht, hp⟩ => ⟨t, (hexec _).trans ht, hp⟩
    refine ⟨fun op hop => (hexec op).trans (cacheOp_undefined _ _ _ op hop), fun hi => ?_, fun hline => ?_,
      fun hmiss op hop => ?_⟩
    · have hindex : indexOf va = i := (indexOf_eq va).trans hi.symm
      exact ⟨runs (indexInvalidateI_done hic hindex bus pa), runs (indexLoadTagI_done hf hindex bus),
        runs (indexStoreTagI_done hic hindex bus), fun hk => runs (fill_done hic hce hindex hk hq bus)⟩
    · exact ⟨runs (hitInvalidateI_hit hic hline bus), fun he => runs (hitWriteBackI_hit hce hline he bus)⟩
    · obtain ⟨hflush, ⟨hbuf, hll, htags⟩, hdc, hicache, hch⟩ := setCH_flushed s bus false
      exact runs (.of_done (hitI_miss hmiss hop bus) ⟨hflush.instr hll hdc, hbuf, htags, hicache, hch⟩)

end Sys2Proof.Proofs

/-! ## Proofs: the encoding

The decoder looks an instruction up (`decodeRaw`) and then compares encodings; so the round trip has two parts: the
lookup finds each instruction in its own encoding, and whatever the lookup names is well-formed. -/

namespace Sys2Proof.Proofs
open Sys2Proof.Machine Sys2Proof.Laws

/-! ### The two stages of the decoder -/

/-- The lookup finds every well-formed instruction in its own encoding: the lemmas of `Laws.Encoding`, in the order of
the constructors. -/
theorem decodeRaw_encode (i : Instr) : i.wf = true → decodeRaw (encode i) = .instr i :=
  Instr.casesOn (motive := Encoding.Statement) i
    Encoding.sll Encoding.srl Encoding.sra Encoding.sllv Encoding.srlv Encoding.srav Encoding.jr Encoding.jalr
    Encoding.syscall Encoding.brk Encoding.sync Encoding.mfhi Encoding.mthi Encoding.mflo Encoding.mtlo Encoding.dsllv
    Encoding.dsrlv Encoding.dsrav Encoding.mult Encoding.multu Encoding.div Encoding.divu Encoding.dmult
    Encoding.dmultu Encoding.ddiv Encoding.ddivu Encoding.add Encoding.addu Encoding.sub Encoding.subu Encoding.and
    Encoding.or Encoding.xor Encoding.nor Encoding.slt Encoding.sltu Encoding.dadd Encoding.daddu Encoding.dsub
    Encoding.dsubu Encoding.tge Encoding.tgeu Encoding.tlt Encoding.tltu Encoding.teq Encoding.tne Encoding.dsll
    Encoding.dsrl Encoding.dsra Encoding.dsll32 Encoding.dsrl32 Encoding.dsra32 Encoding.bltz Encoding.bgez
    Encoding.bltzl Encoding.bgezl Encoding.tgei Encoding.tgeiu Encoding.tlti Encoding.tltiu Encoding.teqi
    Encoding.tnei Encoding.bltzal Encoding.bgezal Encoding.bltzall Encoding.bgezall Encoding.j Encoding.jal
    Encoding.beq Encoding.bne Encoding.blez Encoding.bgtz Encoding.addi Encoding.addiu Encoding.slti Encoding.sltiu
    Encoding.andi Encoding.ori Encoding.xori Encoding.lui Encoding.beql Encoding.bnel Encoding.blezl Encoding.bgtzl
    Encoding.daddi Encoding.daddiu Encoding.ldl Encoding.ldr Encoding.lb Encoding.lh Encoding.lwl Encoding.lw
    Encoding.lbu Encoding.lhu Encoding.lwr Encoding.lwu Encoding.sb Encoding.sh Encoding.swl Encoding.sw Encoding.sdl
    Encoding.sdr Encoding.swr Encoding.cache Encoding.ll Encoding.lld Encoding.ld Encoding.sc Encoding.scd Encoding.sd
    Encoding.lwc1 Encoding.ldc1 Encoding.swc1 Encoding.sdc1 Encoding.lwc2 Encoding.ldc2 Encoding.swc2 Encoding.sdc2
    Encoding.mfc0 Encoding.dmfc0 Encoding.mtc0 Encoding.dmtc0 Encoding.cfc0 Encoding.ctc0 Encoding.bc0f Encoding.bc0t
    Encoding.bc0fl Encoding.bc0tl Encoding.tlbr Encoding.tlbwi Encoding.tlbwr Encoding.tlbp Encoding.eret
    Encoding.wait Encoding.mfc1 Encoding.dmfc1 Encoding.cfc1 Encoding.mtc1 Encoding.dmtc1 Encoding.ctc1 Encoding.bc1f
    Encoding.bc1t Encoding.bc1fl Encoding.bc1tl Encoding.addFmt Encoding.subFmt Encoding.mulFmt Encoding.divFmt
    Encoding.sqrtFmt Encoding.absFmt Encoding.movFmt Encoding.negFmt Encoding.roundLFmt Encoding.truncLFmt
    Encoding.ceilLFmt Encoding.floorLFmt Encoding.roundWFmt Encoding.truncWFmt Encoding.ceilWFmt Encoding.floorWFmt
    Encoding.cvtSFmt Encoding.cvtDFmt Encoding.cvtWFmt Encoding.cvtLFmt Encoding.cCondFmt Encoding.mfc2 Encoding.dmfc2
    Encoding.cfc2 Encoding.mtc2 Encoding.dmtc2 Encoding.ctc2 Encoding.bc2f Encoding.bc2t Encoding.bc2fl Encoding.bc2tl
    Encoding.cop2

theorem decode_eq_instr {w : Word} {i : Instr} :
    decode w = .instr i ↔ decodeRaw w = .instr i ∧ encode i = w := by
  unfold decode
  cases decodeRaw w with
  | instr j =>
    dsimp only
    constructor
    · intro h
      split at h
      · cases h
        exact ⟨rfl, ‹_›⟩
      · cases h
    · rintro ⟨⟨⟩, h⟩
      exact if_pos h
  | unused | reserved | copReserved | fpReserved => simp

theorem decode_of_raw_reserved {w : Word} (h : decodeRaw w = .reserved) : decode w = .reserved := by
  rw [decode, h]

/-! ### What the lookup names is well-formed -/

/-- The instruction that a word names, if it names one, can be encoded. -/
def namesWf : Decoded → Bool
  | .instr i => i.wf
  | _ => true

/-- The leading bit of the format field is bit 25 of the word (30_encoding R288). -/
theorem fmtOk_rsOf (w : Word) : fmtOk (rsOf w) = w.getLsbD 25 := by
  simp [fmtOk, rsOf]

theorem decodeSpecial_wf (w : Word) : namesWf (decodeSpecial w) = true := by
  unfold decodeSpecial; split <;> rfl

theorem decodeRegimm_wf (w : Word) : namesWf (decodeRegimm w) = true := by
  unfold decodeRegimm; split <;> rfl

theorem decodeCop0_wf (w : Word) : namesWf (decodeCop0 w) = true := by
  have hbranch : namesWf (decodeBc0 w) = true := by unfold decodeBc0; split <;> rfl
  have hop : namesWf (decodeCop0Co w) = true := by unfold decodeCop0Co; split <;> rfl
  unfold decodeCop0
  split
  case h_7 => exact hbranch
  case h_8 =>
    split
    · exact hop
    · rfl
  all_goals rfl

/-- The one place where being well-formed takes a check: the operations of COP1, whose format has its leading bit. -/
theorem decodeCop1Op_wf {w : Word} (h : w.getLsbD 25 = true) : namesWf (decodeCop1Op w) = true := by
  have hfmt : fmtOk (rsOf w) = true := (fmtOk_rsOf w).trans h
  unfold decodeCop1Op
  split
  case h_21 =>
    split
    · exact hfmt
    · rfl
  all_goals exact hfmt

theorem decodeCop1_wf (w : Word) : namesWf (decodeCop1 w) = true := by
  have hbranch : namesWf (decodeBc1 w) = true := by unfold decodeBc1; split <;> rfl
  unfold decodeCop1
  split
  case h_7 => exact hbranch
  case h_8 =>
    split
    · exact decodeCop1Op_wf ‹_›
    · rfl
  all_goals rfl

theorem decodeCop2_wf (w : Word) : namesWf (decodeCop2 w) = true := by
  have hbranch : namesWf (decodeBc2 w) = true := by unfold decodeBc2; split <;> rfl
  unfold decodeCop2
  split
  case h_7 => exact hbranch
  case h_8 => split <;> rfl
  all_goals rfl

theorem decodeRaw_wf (w : Word) : namesWf (decodeRaw w) = true := by
  unfold decodeRaw
  split
  case h_1 => exact decodeSpecial_wf w
  case h_2 => exact decodeRegimm_wf w
  case h_17 => exact decodeCop0_wf w
  case h_18 => exact decodeCop1_wf w
  case h_19 => exact decodeCop2_wf w
  all_goals rfl

/-- Settles O1: the decoder's lookup inverts the encoder, and the decoder answers `.instr` only where the encoder
inverts the lookup. -/
theorem decodeEncodeAgree : Obligations.DecodeEncodeAgree := by
  refine ⟨fun i hwf => decode_eq_instr.mpr ⟨decodeRaw_encode i hwf, rfl⟩, fun w i h => ?_⟩
  obtain ⟨hraw, henc⟩ := decode_eq_instr.mp h
  have hwf := decodeRaw_wf w
  rw [hraw] at hwf
  exact ⟨hwf, henc⟩

/-! ### Reserved words -/

/-- Undefined major opcodes (30_encoding R283): none of them is an entry of the table. -/
theorem decodeRaw_reserved_op {w : Word} (h : (opOf w).toNat ∈ [19, 28, 29, 30, 31, 51, 59]) :
    decodeRaw w = .reserved := by
  unfold decodeRaw
  split
  case h_58 => rfl
  all_goals exact absurd h (by rw [‹(opOf w).toNat = _›]; decide)

/-- Undefined SPECIAL functions (30_encoding R284). -/
theorem decodeSpecial_reserved {w : Word}
    (h : (fnOf w).toNat ∈ [1, 5, 10, 11, 14, 21, 40, 41, 53, 55, 57, 61]) : decodeSpecial w = .reserved := by
  unfold decodeSpecial
  split
  case h_53 => rfl
  all_goals exact absurd h (by rw [‹(fnOf w).toNat = _›]; decide)

/-- Undefined REGIMM codes (30_encoding R284). -/
theorem decodeRegimm_reserved {w : Word}
    (h : (rtOf w).toNat ∈ [4, 5, 6, 7, 13, 15, 20, 21, 22, 23, 24, 25, 26, 27, 28, 29, 30, 31]) :
    decodeRegimm w = .reserved := by
  unfold decodeRegimm
  split
  case h_15 => rfl
  all_goals exact absurd h (by rw [‹(rtOf w).toNat = _›]; decide)

theorem decodeRaw_special {w : Word} (h : opOf w = 0) : decodeRaw w = decodeSpecial w := by
  rw [decodeRaw, h]; rfl

theorem decodeRaw_regimm {w : Word} (h : opOf w = 1) : decodeRaw w = decodeRegimm w := by
  rw [decodeRaw, h]; rfl

/-- Settles O3: in each of the three tables the lookup answers `.reserved`, which runs as the exception. -/
theorem reservedWordsTrap : Obligations.ReservedWordsTrap := by
  intro w s h
  have hraw : decodeRaw w = .reserved := by
    obtain hop | ⟨hop, hfn⟩ | ⟨hop, hrt⟩ := h
    · exact decodeRaw_reserved_op hop
    · exact (decodeRaw_special hop).trans (decodeSpecial_reserved hfn)
    · exact (decodeRaw_regimm hop).trans (decodeRegimm_reserved hrt)
  have hdec := decode_of_raw_reserved hraw
  refine ⟨hdec, ?_⟩
  rw [hdec]
  rfl

/-- Settles O2: each word is the encoding of its instruction, which the decoder reads back. -/
theorem decodeWords : Obligations.DecodeWords := by
  have read : ∀ {w : Word} (i : Instr), i.wf = true → encode i = w → decode w = .instr i :=
    fun i hwf he => decode_eq_instr.mpr ⟨he ▸ decodeRaw_encode i hwf, he⟩
  refine ⟨?_, ?_, ?_, ?_, ?_, ?_, ?_, ?_, ?_, ?_, ?_, ?_, ?_, ?_, ?_⟩ <;> exact read _ rfl rfl

/-! ### A step with nothing around it -/

section
variable {s s1 s2 t : State} {w : Word} {i : Instr} {run : Instr → State → Result}

theorem input_of_none (hin : s.inputs = []) : s.input = s.idleInput := by
  rw [State.input, hin]; rfl

/-- With no input the pins stay as they are, and an NMI level that was there before is no new NMI. -/
theorem latchInput_idle (hin : s.inputs = []) (hlevel : s.nmiLevel = true → s.nmiPrev = true) :
    s.latchInput = { s with exc := false, nmiPrev := s.nmiLevel, dma := [] } := by
  have htail : s.inputs.tail = s.inputs := by rw [hin]; rfl
  have hnew : (s.nmiLevel && !s.nmiPrev) = false := by simpa using hlevel
  calc s.latchInput
      = { s with
          exc := false, nmiPrev := s.nmiLevel, dma := [], slave := s.slave || false, inputs := s.inputs.tail
          nmiLatch := s.nmiLatch || (s.nmiLevel && !s.nmiPrev) } := by
        rw [State.latchInput, input_of_none hin]; rfl
    _ = _ := by rw [hnew, htail, Bool.or_false, Bool.or_false]

/-- Without a wait, an NMI, standby or an external request the step is one at an instruction boundary. -/
theorem proceed_boundary (hwait : s.busWait = none) (hnmi : s.nmiLatch = false) (hstandby : s.standby = false)
    (hslave : s.slave = false) (inp : Input) (hreq : inp.extRqst = false) :
    s.proceed inp run = s.boundary false run := by
  have hs : { s with standby := false } = s := by rw [← hstandby]
  unfold State.proceed
  split
  case h_1 hsome => rw [hwait] at hsome; cases hsome
  case h_2 => rw [if_neg (by simp [hnmi]), if_neg (by simp [hstandby]), hs, hslave, hreq, Bool.or_false]

theorem runNext_of_fetch (hfetch : s.fetch = .ok w t) (hdec : decode w = .instr i) :
    s.runNext run = holdWord w (run i t) := by
  rw [State.runNext, hfetch]
  show holdWord w (t.runDecoded run (decode w)) = _
  rw [hdec]
  rfl

theorem runOrInterrupt_of_none (h : s.takesInterrupt = false) : s.runOrInterrupt run = s.runNext run := by
  simp [State.runOrInterrupt, h]

/-- An instruction that does not wait keeps no word. -/
theorem holdWord_done (hwait : t.busWait = none) : holdWord w (.next t) = .next t := by
  have hmap : (t.busWait.map fun b => { b with word := w }) = t.busWait := by rw [hwait]; rfl
  rw [holdWord, hmap]

/-- A step with no input, in which no interrupt is taken, drains one write and runs the instruction at pc. -/
theorem step_idle (hin : s.inputs = []) (hwait : s.busWait = none) (hslave : s.slave = false)
    (hstandby : s.standby = false) (hnmi : s.nmiLatch = false) (hlevel : s.nmiLevel = true → s.nmiPrev = true)
    (hdrain : { s with exc := false, nmiPrev := s.nmiLevel, dma := [] }.drainOne = .ok () s1)
    (hint : s1.startInstr.takesInterrupt = false) :
    step s = endStep (s1.startInstr.afterRun exec (s1.startInstr.runNext exec)) := by
  have hboundary := proceed_boundary (s := { s with exc := false, nmiPrev := s.nmiLevel, dma := [] }) (run := exec)
    hwait hnmi hstandby hslave s.idleInput rfl
  rw [step, State.cycle, latchInput_idle hin hlevel, input_of_none hin]
  show endStep (State.proceed { s with exc := false, nmiPrev := s.nmiLevel, dma := [] } s.idleInput exec) = _
  rw [hboundary, State.boundary, if_neg Bool.false_ne_true, hdrain]
  show endStep (s1.startInstr.afterRun exec (s1.startInstr.runOrInterrupt exec)) = _
  rw [runOrInterrupt_of_none hint]

end

/-- Settles O4: the step is the instruction at pc between its drain and its end; an instruction that ends normally has
no killed fetch behind it and keeps no word. -/
theorem stepRunsDecodedInstruction : Obligations.StepRunsDecodedInstruction := by
  intro s s1 s2 w i hin hwait hslave hstandby hnmi hlevel hdrain hint hfetch hdec
  have hstep : step s = endStep (s1.startInstr.afterRun exec (holdWord w (exec i s2))) := by
    rw [step_idle hin hwait hslave hstandby hnmi hlevel hdrain hint, runNext_of_fetch hfetch hdec]
  refine ⟨hstep, fun t hexec hexc hdone hi => ?_⟩
  have hkilled : s1.startInstr.killFetches t exec = t :=
    killFetches_none exec hexc (by rw [fetched_eq hfetch hdec]; simpa using hi)
  rw [hstep, hexec, holdWord_done hdone, State.afterRun, hkilled]
  rfl

end Sys2Proof.Proofs

/-! ## Proofs: the uncached loads and stores (O25, O29) -/

namespace Sys2Proof.Proofs
open Sys2Proof.Machine

section
variable {s : State} {va : DWord} {pa : PAddr} {n : Nat}

/-- An uncached read of memory for data brings the aligned doubleword, once the buffered writes have left (22_caches
R250). -/
theorem uncachedRead_data (h : s.plain pa n) (va : DWord) :
    ∃ bus, s.uncachedRead va pa n false = .ok (memDword s.cfg.bigEndian s.settledMem pa) (drained s bus) := by
  obtain ⟨hk, hq⟩ := h
  obtain ⟨bus, hbus⟩ := busRead_quiet hq (.read pa n) hk none
  refine ⟨bus, ?_⟩
  have hgood : ∀ u : State, u.checkResponse (s.response none s.settledMem false pa) false true va pa = .ok () u :=
    fun u => checkResponse_good u (respError_response ..) (respBad_response ..) ..
  unfold State.uncachedRead
  rw [hbus]
  simp only [Res.bind, Option.isSome_none, Bool.not_false, hgood, dword_response]
  rfl

/-- A load that ends where the buffered writes have left. -/
theorem setGpr_loaded (s : State) (bus : List BusReq) (rd : Reg) (v : DWord) :
    ∃ t, (drained s bus).setGpr rd v = .next t ∧ s.LoadedFromBus t rd v ∧ t.wbuf = [] := by
  obtain ⟨t, ht, ⟨hresult, ⟨hothers, -, hrest⟩, hcont⟩, hlate⟩ := setGpr_wrote (drained s bus) rd v
  have hbytes : t.settledMem = s.settledMem := by rw [hrest]; rfl
  refine ⟨t, ht, ⟨hresult, ⟨hothers, fun a => ?_, ?_, hlate⟩, continued_congr hcont rfl rfl rfl rfl⟩, ?_⟩
  · rw [State.byteAt, hbytes, State.byteAt]
  · rw [hrest]; rfl
  · rw [hrest]; rfl

/-- The datum of an aligned load is the number its bytes in memory spell. -/
theorem toNat_memDatum (hn : n ∈ dataSizes) (hva : va.toNat % n = 0) (hoff : pa.toNat % 4096 = va.toNat % 4096) :
    (memDword s.cfg.bigEndian s.settledMem (busAddr s.reverseEndian pa n) >>>
      (8 * laneAt s.bigEndianCPU va n)).toNat % 256 ^ n = s.memNumber pa n := by
  refine toNat_datum hn hva hoff fun k hk => ?_
  have hlt : s.byteAddr pa k % 8 < 8 := Nat.mod_lt _ (by decide)
  have hdword := byteAddr_div8 (s := s) hn (aligned_of_page hn hva hoff) hk
  rw [lane_memDword _ _ _ (laneOf_lt _ hlt), laneOf_laneOf _ hlt, busAddr_div8, ← hdword, Nat.div_add_mod']
  rfl

/-- An aligned uncached load takes the doubleword of memory. -/
theorem readDatum_uncached (h : s.plain (busAddr s.reverseEndian pa n) n) (va : DWord) :
    ∃ bus, s.readDatum va n (pa, 2) =
      .ok (memDword s.cfg.bigEndian s.settledMem (busAddr s.reverseEndian pa n) >>>
        (8 * laneAt s.bigEndianCPU va n)) (drained s bus) := by
  obtain ⟨bus, hbus⟩ := uncachedRead_data h va
  refine ⟨bus, ?_⟩
  simp only [State.readDatum, State.memRead, if_pos]
  rw [hbus]
  rfl

/-- A store that allocates no line goes to the write buffer: uncached, or write-through without allocation on a miss
(22_caches R250, R253). -/
theorem memWrite_buffered {attr : BitVec 3} (h : attr = 2 ∨ attr = 0 ∧ s.dLookup va pa = none) (d : DWord) :
    s.memWrite va pa n d attr = s.pushWrite pa n d := by
  unfold State.memWrite
  rcases h with rfl | ⟨rfl, hmiss⟩
  · rfl
  · rw [hmiss]; rfl

end

/-- Settles O25: the buffered writes leave, and the load takes the doubleword that memory then holds. -/
theorem loadsUncached : Obligations.LoadsUncached := by
  intro s base rt offset pa e he h64 ⟨hva, hmaps, hplain⟩
  have hn := alignedLoads_size he
  have hoff := mod_page_of_maps hmaps
  obtain ⟨hx, -⟩ := hmaps
  obtain ⟨bus, hread⟩ := readDatum_uncached hplain (s.address base offset)
  obtain ⟨t, ht, hloaded, -⟩ := setGpr_loaded s bus rt (extended e.2.2.1 e.2.1 (s.memNumber pa e.2.1))
  refine ⟨t, ?_, hloaded⟩
  rw [exec_alignedLoad he h64, loadTo_eq hva hx, hread, Res.finish, toNat_memDatum hn hva hoff, ht]

/-- Settles O29: the store enters the write buffer. -/
theorem storesUncached : Obligations.StoresUncached := by
  intro s base rt offset pa attr e he h64 va hwf hva hmaps hattr hplain
  have hoff := mod_page_of_maps hmaps
  obtain ⟨hmem, -⟩ := hwf
  obtain ⟨hx, -⟩ := hmaps
  obtain ⟨t, ht, hstored⟩ := pushWrite_stored hmem (alignedStores_size he) hva hoff hplain (s.readGpr rt)
  refine ⟨t.retire, ?_, hstored⟩
  rw [exec_alignedStore he h64, storeFrom_eq hva hx, State.writeDatum,
    memWrite_buffered (by rwa [dLookup_busAddr]), ht]
  rfl

end Sys2Proof.Proofs

/-! ## Proofs: the exceptions of references (O32) -/

namespace Sys2Proof.Proofs
open Sys2Proof.Machine

section
variable {s : State} {k : AccessKind} {va : DWord} {n : Nat}

/-- An instruction that begins with a reference of `n` bytes to `va`, whatever it does with the translation. -/
def Refers (s : State) (i : Instr) (k : AccessKind) (va : DWord) (n : Nat) : Prop :=
  ∃ f, exec i s = (s.reference k va n).finish f

theorem finish_bind {α β : Type} (r : Res α) (g : α → State → Res β) (f : β → State → Result) :
    (r.bind g).finish f = r.finish fun a u => (g a u).finish f := by
  cases r <;> rfl

/-- A reference that is not aligned takes the Address Error exception (20_memory R148). -/
theorem reference_misaligned (h : va.toNat % n ≠ 0) :
    s.reference k va n = .stop (s.except (.addressError va k.isStore)) := by
  rw [State.reference, State.aligned, if_neg h]
  rfl

/-- An aligned reference without a translation takes the translation's exception (21_mmu_tlb R210). -/
theorem reference_untranslated (h : va.toNat % n = 0) {x : Exc} (hx : s.translate k va = .exc x) :
    s.reference k va n = .stop (s.except x) := by
  rw [State.reference, aligned_of_mod h, Res.bind, State.xlate, hx]

theorem Refers.traps {i : Instr} (h : Refers s i k va n) :
    (va.toNat % n ≠ 0 → s.traps i (.addressError va k.isStore)) ∧
      (∀ x, va.toNat % n = 0 → s.translate k va = .exc x → s.traps i x) := by
  obtain ⟨f, hf⟩ := h
  refine ⟨fun hmis => ?_, fun x hva hx => ?_⟩
  · rw [State.traps, hf, reference_misaligned hmis]; rfl
  · rw [State.traps, hf, reference_untranslated hva hx]; rfl

/-! ### How each form begins -/

/-- Every address is aligned for a reference without alignment. -/
theorem reference_byte (s : State) (k : AccessKind) (va : DWord) : s.reference k va 1 = s.xlate k va := by
  rw [State.reference, aligned_of_mod (Nat.mod_one _)]
  rfl

theorem Refers.of_loadDatum {i : Instr} {f : DWord → State → Result}
    (h : exec i s = (s.loadDatum va n).finish f) : Refers s i .load va n :=
  ⟨_, h.trans (finish_bind ..)⟩

theorem Refers.of_storeDatum {i : Instr} {v : DWord} {f : Unit → State → Result}
    (h : exec i s = (s.storeDatum va n v).finish f) : Refers s i .store va n :=
  ⟨_, h.trans (finish_bind ..)⟩

theorem Refers.of_xlate {i : Instr} {f : PAddr × BitVec 3 → State → Result}
    (h : exec i s = (s.xlate k va).finish f) : Refers s i k va 1 :=
  ⟨f, by rw [h, reference_byte]⟩

end

/-- The loads and CACHE, with the bytes of their alignment and the test before them (40_loads_stores R312). -/
def loadRows (s : State) (base rt : Reg) (offset : BitVec 16) (op : BitVec 5) : List (Instr × Nat × Prop) :=
  let wide := s.ops64Enabled = true
  let cop := fun z => s.copUsable z = true
  [(.lb base rt offset, 1, True), (.lbu base rt offset, 1, True), (.lh base rt offset, 2, True),
    (.lhu base rt offset, 2, True), (.lw base rt offset, 4, True), (.lwu base rt offset, 4, wide),
    (.ld base rt offset, 8, wide), (.ll base rt offset, 4, True), (.lld base rt offset, 8, wide),
    (.lwc1 base rt offset, 4, cop 1), (.ldc1 base rt offset, 8, cop 1), (.lwc2 base rt offset, 4, cop 2),
    (.ldc2 base rt offset, 8, cop 2), (.lwl base rt offset, 1, True), (.lwr base rt offset, 1, True),
    (.ldl base rt offset, 1, wide), (.ldr base rt offset, 1, wide), (.cache base op offset, 1, cop 0)]

/-- The stores, in the same way. -/
def storeRows (s : State) (base rt : Reg) (offset : BitVec 16) : List (Instr × Nat × Prop) :=
  let wide := s.ops64Enabled = true
  let cop := fun z => s.copUsable z = true
  [(.sb base rt offset, 1, True), (.sh base rt offset, 2, True), (.sw base rt offset, 4, True),
    (.sd base rt offset, 8, wide), (.sc base rt offset, 4, True), (.scd base rt offset, 8, wide),
    (.swc1 base rt offset, 4, cop 1), (.sdc1 base rt offset, 8, cop 1), (.swc2 base rt offset, 4, cop 2),
    (.sdc2 base rt offset, 8, cop 2), (.swl base rt offset, 1, True), (.swr base rt offset, 1, True),
    (.sdl base rt offset, 1, wide), (.sdr base rt offset, 1, wide)]

theorem loadRows_refer (s : State) (base rt : Reg) (offset : BitVec 16) (op : BitVec 5) :
    ∀ e ∈ loadRows s base rt offset op, e.2.2 → Refers s e.1 .load (s.ea base offset) e.2.1 := by
  simp only [loadRows, List.forall_mem_cons, List.not_mem_nil, false_implies, implies_true, and_true, true_implies]
  exact ⟨.of_loadDatum rfl, .of_loadDatum rfl, .of_loadDatum rfl, .of_loadDatum rfl, .of_loadDatum rfl,
    fun h => .of_loadDatum (needs64_enabled h _), fun h => .of_loadDatum (needs64_enabled h _), ⟨_, rfl⟩,
    fun h => ⟨_, needs64_enabled h _⟩, fun h => .of_loadDatum (needsCop_usable h _),
    fun h => .of_loadDatum (needsCop_usable h _), fun h => .of_loadDatum (needsCop_usable h _),
    fun h => .of_loadDatum (needsCop_usable h _), .of_xlate rfl, .of_xlate rfl,
    fun h => .of_xlate (needs64_enabled h _), fun h => .of_xlate (needs64_enabled h _),
    fun h => .of_xlate (needsCop_usable h _)⟩

theorem storeRows_refer (s : State) (base rt : Reg) (offset : BitVec 16) :
    ∀ e ∈ storeRows s base rt offset, e.2.2 → Refers s e.1 .store (s.ea base offset) e.2.1 := by
  simp only [storeRows, List.forall_mem_cons, List.not_mem_nil, false_implies, implies_true, and_true, true_implies]
  exact ⟨.of_storeDatum rfl, .of_storeDatum rfl, .of_storeDatum rfl,
    fun h => .of_storeDatum (needs64_enabled h _), ⟨_, rfl⟩, fun h => ⟨_, needs64_enabled h _⟩,
    fun h => .of_storeDatum (needsCop_usable h _), fun h => .of_storeDatum (needsCop_usable h _),
    fun h => .of_storeDatum (needsCop_usable h _), fun h => .of_storeDatum (needsCop_usable h _),
    .of_xlate rfl, .of_xlate rfl, fun h => .of_xlate (needs64_enabled h _),
    fun h => .of_xlate (needs64_enabled h _)⟩

/-- A fetch begins with the reference to the word at pc (20_memory R147). -/
theorem runNext_eq (s : State) (run : Instr → State → Result) :
    ∃ f, s.runNext run = (s.reference .fetch s.pc 4).finish f := by
  refine ⟨fun t u => (u.fetchWord s.pc t.1 t.2).finish fun w u => u.runWord run w, ?_⟩
  rw [State.runNext, State.fetch, State.reference]
  simp only [finish_bind]
  rfl

/-- Settles O32: every form begins with its reference, whose alignment test and translation give the exception. -/
theorem accessExceptions : Obligations.AccessExceptions := by
  intro s base rt offset op va wide cop
  have hva : va = s.ea base offset := address_eq_ea s base offset
  obtain ⟨f, hfetch⟩ := runNext_eq s exec
  refine ⟨fun e he hen => ?_, fun e he hen => ?_, fun hpc => ?_, fun x hpc hx => ?_⟩
  · rw [hva]; exact (loadRows_refer s base rt offset op e he hen).traps
  · rw [hva]; exact (storeRows_refer s base rt offset e he hen).traps
  · rw [hfetch, reference_misaligned hpc]; rfl
  · rw [hfetch, reference_untranslated hpc hx]; rfl

end Sys2Proof.Proofs

/-! ## Proofs: load linked and store conditional (O33) -/

namespace Sys2Proof.Proofs
open Sys2Proof.Machine

/-! ### Which stores complete

The statement knows only that SW or SD ended in a state without an exception that does not wait for the bus. -/

section
variable {α β : Type} {s t : State}

/-- Where control is, and the system registers. -/
def control (s : State) := (s.pc, s.pending, s.cp0)

/-- An instruction ended by an exception, or waits for the bus. -/
def Interrupted (s : State) : Prop := s.exc = true ∨ s.busWait ≠ none

/-- Part of an instruction begun in `s` goes on with control and the system registers as they were, or ends the
instruction with an exception, a wait or a stop of the machine. -/
def GoesOn (s : State) : Res α → Prop
  | .ok _ t => control t = control s
  | .stop r => Leaves Interrupted r

theorem GoesOn.bind {r : Res α} {f : α → State → Res β} (hr : GoesOn s r) (hf : ∀ a t, GoesOn t (f a t)) :
    GoesOn s (r.bind f) := by
  cases r with
  | stop o => exact hr
  | ok a t =>
    have hft := hf a t
    show GoesOn s (f a t)
    cases h : f a t with
    | stop o => rw [h] at hft; exact hft
    | ok b u => rw [h] at hft; exact Eq.trans hft hr

/-- What changes neither control nor the system registers before it may be left out. -/
theorem GoesOn.of_control {r : Res α} (h : control t = control s) (hr : GoesOn t r) : GoesOn s r := by
  cases r with
  | stop o => exact hr
  | ok a u => exact Eq.trans hr h

theorem goesOn_except (s t : State) (e : Exc) : GoesOn s (.stop (t.except e) : Res α) := .inl rfl

/-! The write buffer and the bus. -/

theorem goesOn_sendWrite (s : State) (e : WEntry) : GoesOn s (s.sendWrite e) := by
  unfold State.sendWrite
  dsimp only
  split
  · trivial
  · split <;> rfl

theorem goesOn_sendAll (l : List WEntry) (s : State) : GoesOn s (State.sendAll l s) := by
  induction l generalizing s with
  | nil => rfl
  | cons e l ih => exact (goesOn_sendWrite s e).bind fun _ t => ih t

theorem goesOn_drain (s : State) : GoesOn s s.drain := .of_control rfl (goesOn_sendAll _ _)

theorem goesOn_pushWrite (s : State) (pa : PAddr) (n : Nat) (d : DWord) : GoesOn s (s.pushWrite pa n d) := by
  refine GoesOn.bind ?_ fun _ _ => rfl
  split
  · unfold State.drainHead
    split
    · rfl
    · exact .of_control rfl (goesOn_sendWrite _ _)
  · rfl

theorem goesOn_busRead (s : State) (req : BusReq) (pa : PAddr) (fetch : Bool) (line : Option (Bool × Nat)) :
    GoesOn s (s.busRead req pa fetch line) := by
  unfold State.busRead
  split
  · rfl
  · refine (goesOn_drain s).bind fun _ t => ?_
    dsimp only
    split
    · exact .inr (Option.some_ne_none _)
    · rfl

theorem goesOn_checkParity (s : State) (p : Option ParityError) : GoesOn s (s.checkParity p) := by
  unfold State.checkParity
  split
  · rfl
  · unfold State.parityError
    split
    · rfl
    · exact .inl rfl

theorem goesOn_checkResponse (s : State) (cs : List DataCycle) (fetch er : Bool) (va : DWord) (pa : PAddr) :
    GoesOn s (s.checkResponse cs fetch er va pa) := by
  refine (goesOn_checkParity s _).bind fun _ t => ?_
  split
  · exact goesOn_except _ _ _
  · rfl

/-! The data cache. -/

theorem goesOn_pushLine (s : State) (pa : PAddr) (d : LineData) (par : BitVec 32) (retained : Bool)
    (slot : Bool × Nat) : GoesOn s (s.pushLine pa d par retained slot) :=
  (goesOn_drain s).bind fun _ _ => rfl

theorem goesOn_evict (s : State) (va : DWord) (pa : PAddr) (i : Nat) : GoesOn s (s.evict va pa i) := by
  unfold State.evict
  dsimp only
  split
  · exact (goesOn_pushLine s ..).bind fun _ t => goesOn_checkParity t _
  · rfl

theorem goesOn_dFind (s : State) (va : DWord) (pa : PAddr) : GoesOn s (s.dFind va pa) := by
  unfold State.dFind
  split
  · rfl
  · refine (goesOn_busRead s _ _ _ _).bind fun cs t => (goesOn_evict t va pa _).bind fun _ u => ?_
    exact .of_control rfl ((goesOn_checkResponse _ cs false true va pa).bind fun _ _ => rfl)

theorem goesOn_storeHit (s : State) (va : DWord) (pa : PAddr) (n : Nat) (d : DWord) (attr : BitVec 3) (i : Nat) :
    GoesOn s (s.storeHit va pa n d attr i) := by
  refine (goesOn_checkParity s _).bind fun _ t => ?_
  split
  · rfl
  · exact .of_control rfl (goesOn_pushWrite _ pa n d)

theorem goesOn_memWrite (s : State) (va : DWord) (pa : PAddr) (n : Nat) (d : DWord) (attr : BitVec 3) :
    GoesOn s (s.memWrite va pa n d attr) := by
  unfold State.memWrite
  split
  · exact goesOn_pushWrite s pa n d
  · split
    · split
      · exact goesOn_storeHit s va pa n d _ _
      · exact goesOn_pushWrite s pa n d
    · exact (goesOn_dFind s va pa).bind fun i t => goesOn_storeHit t va pa n d attr i

theorem goesOn_reference (s : State) (k : AccessKind) (va : DWord) (n : Nat) : GoesOn s (s.reference k va n) := by
  refine GoesOn.bind ?_ fun _ t => ?_
  · unfold State.aligned
    split
    · rfl
    · exact goesOn_except _ _ _
  · unfold State.xlate
    split
    · rfl
    · exact goesOn_except _ _ _

theorem goesOn_storeDatum (s : State) (va : DWord) (n : Nat) (v : DWord) : GoesOn s (s.storeDatum va n v) :=
  (goesOn_reference s .store va n).bind fun t u => goesOn_memWrite u va _ n _ t.2

theorem storeFrom_of_ok {base rt : Reg} {offset : BitVec 16} {n : Nat} {w : State}
    (h : s.storeDatum (s.ea base offset) n (s.readGpr rt) = .ok () w) :
    s.storeFrom base rt offset n = .next w.retire := by
  rw [State.storeFrom, h]
  rfl

/-- The end of an instruction does not disturb the bus. -/
theorem quiet_of_retire (h : s.retire.quiet) : s.quiet := by
  rw [retire_rest] at h
  exact h

/-- What the end of an instruction changed, changed back. -/
theorem retire_undone (h : control t = control s) :
    { t.retire with pc := s.pc, pending := s.pending, cp0 := { t.retire.cp0 with random := s.cp0.random } } = t := by
  simp only [control, Prod.mk.injEq] at h
  obtain ⟨hpc, hpending, hcp0⟩ := h
  rw [retire_rest, ← hpc, ← hpending, ← hcp0]

/-- A store that ended without an exception and does not wait has stored. -/
theorem storeFrom_completed {base rt : Reg} {offset : BitVec 16} {n : Nat} {u : State}
    (h : s.storeFrom base rt offset n = .next u) (hexc : u.exc = false) (hwait : u.busWait = none) :
    ∃ w, s.storeDatum (s.ea base offset) n (s.readGpr rt) = .ok () w ∧ u = w.retire ∧ control w = control s := by
  have hgoes := goesOn_storeDatum s (s.ea base offset) n (s.readGpr rt)
  unfold State.storeFrom at h
  cases hst : s.storeDatum (s.ea base offset) n (s.readGpr rt) with
  | ok a w =>
    rw [hst] at h hgoes
    exact ⟨w, rfl, (Host.Outcome.next.inj h).symm, hgoes⟩
  | stop r =>
    rw [hst] at h hgoes
    obtain rfl : r = .next u := h
    rcases hgoes with hx | hw
    · rw [hexc] at hx; cases hx
    · exact absurd hwait hw

end

/-! ### Load linked -/

section
variable {s u : State} {base rt : Reg} {offset : BitVec 16} {pa : PAddr} {n i : Nat} {attr : BitVec 3} {d : DWord}
variable {va : DWord} {bus : List BusReq}

/-- The link is on `pa`, with LLbit `b` (40_loads_stores R336, 11_cp0_registers R104). -/
def linkedTo (s : State) (pa : PAddr) (b : Bool) : State :=
  { s with llbit := b, linkPa := pa, cp0 := { s.cp0 with llAddr := BitVec.ofNat 32 (pa.toNat / 16) } }

/-- The write buffer drains in a quiet machine. -/
theorem drain_drained (h : s.quiet) : ∃ bus, s.drain = .ok () (drained s bus) := drain_quiet h

/-- A load linked that has its datum keeps the address and ends when the write buffer has drained. -/
theorem loadLinked_loaded (hva : (s.address base offset).toNat % n = 0)
    (hx : s.translate .load (s.address base offset) = .ok pa attr)
    (hread : s.readDatum (s.address base offset) n (pa, attr) = .ok d u) (hdrain : u.drain = .ok () (drained s bus))
    (ext : DWord → DWord) :
    ∃ t, s.loadLinked base rt offset n ext = .next t ∧
      (linkedTo s pa (if attr = 2 then s.pick .uncachedLink else true)).LoadedFromBus t rt (ext d) ∧ t.wbuf = [] := by
  have haddr : pa.extractLsb' 4 32 = BitVec.ofNat 32 (pa.toNat / 16) := by
    have := pa.isLt
    rw [extract_eq_ofNat, Nat.mod_eq_of_lt (by omega)]
    rfl
  obtain ⟨t, ht, hloaded⟩ :=
    setGpr_loaded (linkedTo s pa (if attr = 2 then s.pick .uncachedLink else true)) bus rt (ext d)
  refine ⟨t, ?_, hloaded⟩
  rw [← ht]
  simp only [State.loadLinked, State.reference, ← address_eq_ea, aligned_of_mod hva, xlate_of_translate hx, Res.bind,
    Res.finish, hread, hdrain, haddr]
  rfl

/-- An aligned load that hits reads the doubleword of its line. -/
theorem readDatum_hit (hattr : attr ≠ 2) (hline : s.dLookup va pa = some i) :
    s.readDatum va n (pa, attr) = (s.readDLine va (busAddr s.reverseEndian pa n) i).bind fun d s1 =>
      .ok (d >>> (8 * laneAt s.bigEndianCPU va n)) s1 := by
  simp only [State.readDatum, State.memRead, if_neg hattr, State.dFind, dLookup_busAddr, hline, Res.bind]

/-- A load linked that hits a line of bad parity takes the Cache Error exception. -/
theorem loadLinked_badParity (hhit : s.hitsLine .load (s.address base offset) n pa attr i) (hbad : ¬ s.goodAt i pa)
    (hde : stDE (s.statusSeen .parityEnable) = false) (ext : DWord → DWord) :
    s.loadLinked base rt offset n ext =
      .next (s.raiseCacheError (lineFault s (s.address base offset) pa (busAddr s.reverseEndian pa n) i)) := by
  obtain ⟨hva, ⟨hx, -⟩, hattr, hline⟩ := hhit
  simp only [State.loadLinked, State.reference, ← address_eq_ea, aligned_of_mod hva, xlate_of_translate hx, Res.bind,
    Res.finish, readDatum_hit hattr hline]
  rw [State.readDLine, lineError_bad hbad, checkParity_bad hde]
  rfl

/-! ### Store conditional -/

/-- Without the link a store conditional stores nothing. -/
theorem storeConditional_unlinked (hl : s.llbit = false) (hva : (s.address base offset).toNat % n = 0)
    (hx : s.translate .store (s.address base offset) = .ok pa attr) (hq : s.quiet) :
    ∃ t, s.storeConditional base rt offset n = .next t ∧ s.LoadedFromBus t rt 0 ∧ t.wbuf = [] := by
  obtain ⟨bus, hbus⟩ := drain_drained hq
  obtain ⟨t, ht, hloaded⟩ := setGpr_loaded s bus rt 0
  refine ⟨t, ?_, hloaded⟩
  rw [← ht]
  simp only [State.storeConditional, State.reference, ← address_eq_ea, aligned_of_mod hva, xlate_of_translate hx,
    Res.bind, Res.finish, hl, Bool.false_eq_true, if_false, hbus]
  rfl

/-- With the link it does what the store of its size does, and goes on with its answer. -/
theorem storeConditional_linked (hl : s.llbit = true) :
    s.storeConditional base rt offset n =
      (s.storeDatum (s.ea base offset) n (s.readGpr rt)).finish fun _ w =>
        w.drain.finish fun _ v => v.setGpr rt 1 := by
  simp only [State.storeConditional, State.storeDatum, finish_bind, hl, if_true]
  rfl

/-- Where that store completes in `w`, the store conditional completes from there. -/
theorem storeConditional_stored {w : State} (hl : s.llbit = true)
    (hst : s.storeDatum (s.ea base offset) n (s.readGpr rt) = .ok () w) (hq : w.quiet) :
    ∃ t, s.storeConditional base rt offset n = .next t ∧ w.LoadedFromBus t rt 1 ∧ t.wbuf = [] := by
  obtain ⟨bus, hbus⟩ := drain_drained hq
  obtain ⟨t, ht, hloaded⟩ := setGpr_loaded w bus rt 1
  refine ⟨t, ?_, hloaded⟩
  rw [← ht, storeConditional_linked hl, hst]
  simp only [Res.finish, hbus]

/-- An aligned store that hits a line goes there. -/
theorem storeDatum_hit (hhit : s.hitsLine .store va n pa attr i) (v : DWord) :
    s.storeDatum va n v = s.storeHit va (busAddr s.reverseEndian pa n) n
      (v <<< (8 * laneAt s.bigEndianCPU va n)) attr i := by
  obtain ⟨hva, ⟨hx, -⟩, hattr, hline⟩ := hhit
  simp only [State.storeDatum, State.reference, aligned_of_mod hva, xlate_of_translate hx, Res.bind, State.writeDatum]
  rw [memWrite_hit hattr hline]

end

/-! ### The statement -/

/-- The linked accesses with the store of their size: bytes, whether the load extends its sign. -/
def linkedRows (base rt : Reg) (offset : BitVec 16) : List (Instr × Instr × Instr × Nat × Bool) :=
  [(.ll base rt offset, .sc base rt offset, .sw base rt offset, 4, true),
    (.lld base rt offset, .scd base rt offset, .sd base rt offset, 8, false)]

theorem exec_linkedRow {s : State} {base rt : Reg} {offset : BitVec 16} {e : Instr × Instr × Instr × Nat × Bool}
    (he : e ∈ linkedRows base rt offset) (h64 : e.2.2.2.1 = 8 → s.ops64Enabled = true) :
    (exec e.1 s = s.loadLinked base rt offset e.2.2.2.1 fun d =>
      extended e.2.2.2.2 e.2.2.2.1 (d.toNat % 256 ^ e.2.2.2.1)) ∧
    exec e.2.1 s = s.storeConditional base rt offset e.2.2.2.1 ∧
    exec e.2.2.1 s = s.storeFrom base rt offset e.2.2.2.1 ∧ e.2.2.2.1 ∈ dataSizes := by
  have hs : (fun d : DWord => extended true 4 (d.toNat % 256 ^ 4)) = signed 4 := funext fun d => (signed_eq 4 d).symm
  have hd : (fun d : DWord => extended false 8 (d.toNat % 256 ^ 8)) = id := funext fun d => (doubleword_eq d).symm
  simp only [linkedRows, List.mem_cons, List.not_mem_nil, or_false] at he
  rcases he with rfl | rfl
  · rw [hs]
    exact ⟨rfl, rfl, rfl, show 4 ∈ dataSizes by decide⟩
  · have h := h64 rfl
    rw [hd]
    exact ⟨needs64_enabled h _, needs64_enabled h _, needs64_enabled h _, show 8 ∈ dataSizes by decide⟩

/-- Settles O33: a load linked is the load, the link and the drain; a store conditional with the link is the store, the
drain and its answer. -/
theorem linkedAccesses : Obligations.LinkedAccesses := by
  intro s base rt offset pa attr i va linkedTo' badParity hwf hq e he n h64
  obtain ⟨hll, hsc, hsw, hn⟩ := exec_linkedRow he h64
  obtain ⟨-, hd, -⟩ := hwf
  have hdrain := drain_drained hq
  simp only [State.completes, hll, hsc, hsw]
  refine ⟨fun hhit => ⟨fun hgood => ?_, fun hbad hde => loadLinked_badParity hhit hbad hde _⟩, fun hunc => ?_,
    fun hva hmaps hl => storeConditional_unlinked hl hva hmaps.1 hq, fun hl => ⟨fun hhit => ⟨fun hgood => ?_,
      fun hbad hde => ?_⟩, fun u hu hexc hwait huq => ?_⟩⟩
  · obtain ⟨hva, hmaps, hattr, hline⟩ := hhit
    have hoff := mod_page_of_maps hmaps
    obtain ⟨bus, hbus⟩ := hdrain
    obtain ⟨t, ht, hloaded, hbuf⟩ := loadLinked_loaded (rt := rt) hva hmaps.1
      (by rw [readDatum_hit hattr hline, readDLine_good hgood]; rfl) hbus
      fun d => extended e.2.2.2.2 n (d.toNat % 256 ^ n)
    rw [if_neg hattr, toNat_lineDatum hn hva hoff] at hloaded
    exact ⟨t, ht, hloaded, hbuf⟩
  · obtain ⟨hva, hmaps, hplain⟩ := hunc
    have hoff := mod_page_of_maps hmaps
    obtain ⟨bus, hread⟩ := readDatum_uncached hplain va
    obtain ⟨t, ht, hloaded, hbuf⟩ := loadLinked_loaded (rt := rt) hva hmaps.1 hread (drain_of_empty rfl)
      fun d => extended e.2.2.2.2 n (d.toNat % 256 ^ n)
    rw [toNat_memDatum hn hva hoff] at hloaded
    exact ⟨t, ht, _, hloaded, hbuf⟩
  · have hst := storeDatum_hit hhit (s.readGpr rt)
    rw [storeHit_good hgood, if_pos rfl, show va = _ from address_eq_ea s base offset] at hst
    have hrest := writeDLine_rest s i (busAddr s.reverseEndian pa n) n
      (s.readGpr rt <<< (8 * laneAt s.bigEndianCPU (s.ea base offset) n)) true
    obtain ⟨t, ht, hloaded⟩ := storeConditional_stored (rt := rt) hl hst (by rw [hrest]; exact hq)
    rw [hrest] at hloaded
    refine ⟨t, ht, _, storeFrom_of_ok hst, ?_⟩
    rw [retire_dcache]
    exact hloaded
  · rw [storeConditional_linked hl, ← address_eq_ea, storeDatum_hit hhit, State.storeHit, lineError_bad hbad,
      checkParity_bad hde]
    rfl
  · obtain ⟨w, hst, rfl, hcontrol⟩ := storeFrom_completed hu hexc hwait
    obtain ⟨t, ht, hloaded⟩ := storeConditional_stored hl hst (quiet_of_retire huq)
    refine ⟨t, ht, ?_⟩
    rw [retire_undone hcontrol]
    exact hloaded

end Sys2Proof.Proofs

/-! ## Proofs: the bytes an unaligned reference moves

The left and right forms in both byte orders, each turned round by Status.RE or not (40_loads_stores R325). Where the
bytes lie depends only on the low three bits of the address, so the byte orders, the two forms and the eight offsets are
a finite table. -/

namespace Sys2Proof.Proofs
open Sys2Proof.Machine

/-! ### The table -/

/-- The sizes of the unit a left or right form works on. -/
abbrev unitSizes : List Nat := [4, 8]

/-- How many bytes a form moves, upward to the end of the unit or downward to its beginning. -/
def lowCount (up : Bool) (n : Nat) (x : BitVec 3) : Nat := if up then n - x.toNat % n else x.toNat % n + 1

/-- The place in its doubleword of the `k`-th byte moved, `r` for bytes turned round. -/
def lowMoved (up r : Bool) (x : BitVec 3) (k : Nat) : BitVec 3 :=
  (if up then x + BitVec.ofNat 3 k else x - BitVec.ofNat 3 k) ^^^ (if r then laneMask 1 else 0)

/-- The place in its doubleword of the address sent to memory. -/
def lowSent (r be left : Bool) (n : Nat) (x : BitVec 3) : Nat :=
  let p := (x ^^^ (if r then laneMask 1 else 0)).toNat
  if left ^^ be then p / n * n else p

/-- The manual's `byte`. -/
def lowByte (cpu : Bool) (n : Nat) (x : BitVec 3) : Nat := if cpu then n - 1 - x.toNat % n else x.toNat % n

/-- The first lane of the unit. -/
def lowUnit (cpu : Bool) (n : Nat) (x : BitVec 3) : Nat := if n = 4 then 4 * (bit (x.getLsbD 2 ^^ cpu)).toNat else 0

/-- The byte of the unit, in lane order, that is the `k`-th one moved. -/
def movedLane (left : Bool) (byte k : Nat) : Nat := if left then byte - k else byte + k

/-- The lanes of the bytes moved (40_loads_stores R326 to R333). -/
theorem laneOf_lowMoved : ∀ n ∈ unitSizes, ∀ x : BitVec 3, ∀ left be r : Bool,
    ∀ k < lowCount (left == (be ^^ r)) n x,
      laneOf be (lowMoved (left == (be ^^ r)) r x k).toNat =
        lowUnit (be ^^ r) n x + movedLane left (lowByte (be ^^ r) n x) k := by decide

/-- The bytes moved are those from the address sent to memory on. -/
theorem lowMoved_eq : ∀ n ∈ unitSizes, ∀ x : BitVec 3, ∀ left be r : Bool,
    ∀ k < lowCount (left == (be ^^ r)) n x,
      (lowMoved (left == (be ^^ r)) r x k).toNat =
        lowSent r be left n x + bytePlace (left ^^ be) (lowCount (left == (be ^^ r)) n x) k := by decide

/-! ### The addresses -/

section
variable {s : State} {left : Bool} {va : DWord} {pa : PAddr} {n k : Nat}

theorem unitSizes_subset : unitSizes ⊆ dataSizes := by decide

theorem unitSizes_bounds : ∀ n ∈ unitSizes, 0 < n ∧ n ≤ 8 ∧ n ∣ 8 := by decide

theorem movedBytes_eq (hn : n ∈ unitSizes) (hoff : pa.toNat % 4096 = va.toNat % 4096) :
    s.movedBytes left n va = lowCount (s.upward left) n (pa.extractLsb' 0 3) := by
  rw [State.movedBytes, lowCount, low3_of_page hoff, low3_mod (unitSizes_subset hn)]

theorem byteIn_eq (hn : n ∈ unitSizes) (hoff : pa.toNat % 4096 = va.toNat % 4096) (cpu : Bool) :
    byteIn cpu va n = lowByte cpu n (pa.extractLsb' 0 3) := by
  rw [lowByte, low3_of_page hoff, low3_mod (unitSizes_subset hn)]
  rfl

theorem unitShift_eq (hoff : pa.toNat % 4096 = va.toNat % 4096) (cpu : Bool) :
    unitShift cpu va n = 8 * lowUnit cpu n (pa.extractLsb' 0 3) := by
  have hbit : (va.extractLsb' 0 3).getLsbD 2 = va.getLsbD 2 := by simp
  unfold unitShift lowUnit wordIn
  rw [low3_of_page hoff, hbit]
  split <;> omega

theorem byteIn_lt (hn : n ∈ unitSizes) (cpu : Bool) (va : DWord) : byteIn cpu va n < n := by
  obtain ⟨hpos, -⟩ := unitSizes_bounds n hn
  have hmod := Nat.mod_lt va.toNat hpos
  unfold byteIn
  dsimp only
  split <;> omega

/-- The count of the manual's pseudocode is the number of bytes from the address to the end of its unit. -/
theorem partialCount_eq (hn : n ∈ unitSizes) (s : State) (left : Bool) (va : DWord) :
    partialCount left n (byteIn s.bigEndianCPU va n) = s.movedBytes left n va := by
  obtain ⟨hpos, -⟩ := unitSizes_bounds n hn
  have hmod := Nat.mod_lt va.toNat hpos
  unfold partialCount State.movedBytes State.upward byteIn
  cases left <;> cases s.bigEndianCPU <;>
    simp only [beq_iff_eq, reduceCtorEq, Bool.false_eq_true, if_true, if_false] <;> omega

/-- An address `k` places on in the doubleword. -/
theorem low3_up (hk : pa.toNat % 8 + k < 8) :
    (pa + BitVec.ofNat 36 k).toNat / 8 = pa.toNat / 8 ∧
      (pa + BitVec.ofNat 36 k).extractLsb' 0 3 = pa.extractLsb' 0 3 + BitVec.ofNat 3 k := by
  have hlt := pa.isLt
  have hsum : (pa + BitVec.ofNat 36 k).toNat = pa.toNat + k := by
    rw [BitVec.toNat_add, BitVec.toNat_ofNat]
    omega
  refine ⟨by rw [hsum]; omega, BitVec.eq_of_toNat_eq ?_⟩
  simp only [BitVec.extractLsb'_toNat, hsum, BitVec.toNat_add, BitVec.toNat_ofNat, Nat.shiftRight_zero]
  omega

/-- An address `k` places back in the doubleword. -/
theorem low3_down (hk : k ≤ pa.toNat % 8) :
    (pa - BitVec.ofNat 36 k).toNat / 8 = pa.toNat / 8 ∧
      (pa - BitVec.ofNat 36 k).extractLsb' 0 3 = pa.extractLsb' 0 3 - BitVec.ofNat 3 k := by
  have hlt := pa.isLt
  have hdiff : (pa - BitVec.ofNat 36 k).toNat = pa.toNat - k := by
    rw [BitVec.toNat_sub, BitVec.toNat_ofNat]
    omega
  refine ⟨by rw [hdiff]; omega, BitVec.eq_of_toNat_eq ?_⟩
  simp only [BitVec.extractLsb'_toNat, hdiff, BitVec.toNat_sub, BitVec.toNat_ofNat, Nat.shiftRight_zero]
  omega

/-- The bytes moved lie in the doubleword of the address. -/
theorem movedAddr_low (hn : n ∈ unitSizes) (hk : k < lowCount (s.upward left) n (pa.extractLsb' 0 3)) :
    s.movedAddr left pa k =
      pa.toNat / 8 * 8 + (lowMoved (s.upward left) s.reverseEndian (pa.extractLsb' 0 3) k).toNat := by
  obtain ⟨-, -, hdvd⟩ := unitSizes_bounds n hn
  rw [lowCount, low3_mod (unitSizes_subset hn), ← Nat.mod_mod_of_dvd pa.toNat hdvd] at hk
  unfold State.movedAddr lowMoved
  split at hk
  · have hroom : pa.toNat % 8 + k < 8 := by
      simp only [List.mem_cons, List.not_mem_nil, or_false] at hn
      rcases hn with rfl | rfl <;> omega
    obtain ⟨hdiv, hlow⟩ := low3_up hroom
    rename_i hup
    rw [if_pos hup, if_pos hup, State.byteAddr, toNat_busAddr, hdiv, hlow]
  · have hroom : k ≤ pa.toNat % 8 := by
      have := Nat.mod_le (pa.toNat % 8) n
      omega
    obtain ⟨hdiv, hlow⟩ := low3_down hroom
    rename_i hup
    rw [if_neg hup, if_neg hup, State.byteAddrBefore, toNat_busAddr, hdiv, hlow]

/-- The lane of the `k`-th byte moved. -/
theorem laneOf_movedAddr (hn : n ∈ unitSizes) (hoff : pa.toNat % 4096 = va.toNat % 4096)
    (hk : k < s.movedBytes left n va) :
    laneOf s.cfg.bigEndian (s.movedAddr left pa k % 8) =
      lowUnit s.bigEndianCPU n (pa.extractLsb' 0 3) + movedLane left (byteIn s.bigEndianCPU va n) k := by
  rw [movedBytes_eq hn hoff] at hk
  rw [movedAddr_low hn hk, Nat.mul_add_mod', Nat.mod_eq_of_lt (BitVec.isLt _), byteIn_eq hn hoff]
  exact laneOf_lowMoved n hn _ left s.cfg.bigEndian s.reverseEndian k hk

/-- Clearing the low `m` bits of an address. -/
theorem toNat_clearLow (p : PAddr) (m : Nat) :
    (p &&& ~~~ BitVec.ofNat 36 (2 ^ m - 1)).toNat = p.toNat / 2 ^ m * 2 ^ m := by
  have hclear : p &&& ~~~ BitVec.ofNat 36 (2 ^ m - 1) = (p >>> m) <<< m := by
    refine BitVec.eq_of_getLsbD_eq fun i hi => ?_
    rw [BitVec.getLsbD_and, BitVec.getLsbD_not, BitVec.getLsbD_ofNat, Nat.testBit_two_pow_sub_one,
      BitVec.getLsbD_shiftLeft, BitVec.getLsbD_ushiftRight]
    by_cases him : i < m
    · simp [him]
    · simp [him, hi, show m + (i - m) = i by omega]
  rw [hclear, BitVec.toNat_shiftLeft, BitVec.toNat_ushiftRight, Nat.shiftLeft_eq, Nat.shiftRight_eq_div_pow,
    Nat.mod_eq_of_lt ((Nat.div_mul_le_self _ _).trans_lt p.isLt)]

/-- Clearing the low bits of an address goes back to the beginning of its unit. -/
theorem toNat_unitStart (hn : n ∈ unitSizes) (p : PAddr) :
    (p &&& ~~~ BitVec.ofNat 36 (n - 1)).toNat = p.toNat / n * n := by
  simp only [List.mem_cons, List.not_mem_nil, or_false] at hn
  rcases hn with rfl | rfl
  · exact toNat_clearLow p 2
  · exact toNat_clearLow p 3

theorem toNat_partialAddr (hn : n ∈ unitSizes) (r be left : Bool) (pa : PAddr) :
    (partialAddr r be left pa n).toNat = pa.toNat / 8 * 8 + lowSent r be left n (pa.extractLsb' 0 3) := by
  unfold partialAddr lowSent
  dsimp only
  split
  · rw [toNat_unitStart hn, toNat_busAddr]
    simp only [List.mem_cons, List.not_mem_nil, or_false] at hn
    rcases hn with rfl | rfl <;> omega
  · exact toNat_busAddr r pa 1

/-- The bytes moved are those from the address sent to memory on, one way or the other. -/
theorem movedAddr_eq (hn : n ∈ unitSizes) (hoff : pa.toNat % 4096 = va.toNat % 4096)
    (hk : k < s.movedBytes left n va) :
    s.movedAddr left pa k = (partialAddr s.reverseEndian s.cfg.bigEndian left pa n).toNat +
      bytePlace (left ^^ s.cfg.bigEndian) (s.movedBytes left n va) k := by
  rw [movedBytes_eq hn hoff] at hk ⊢
  rw [movedAddr_low hn hk, toNat_partialAddr hn, Nat.add_assoc]
  exact congrArg _ (lowMoved_eq n hn _ left s.cfg.bigEndian s.reverseEndian k hk)

/-- They lie in the doubleword sent for. -/
theorem movedAddr_div8 (hn : n ∈ unitSizes) (hoff : pa.toNat % 4096 = va.toNat % 4096)
    (hk : k < s.movedBytes left n va) :
    s.movedAddr left pa k / 8 = (partialAddr s.reverseEndian s.cfg.bigEndian left pa n).toNat / 8 := by
  have haddr := movedAddr_eq hn hoff hk
  rw [movedBytes_eq hn hoff] at hk
  rw [movedAddr_low hn hk, toNat_partialAddr hn] at haddr ⊢
  have := (lowMoved (s.upward left) s.reverseEndian (pa.extractLsb' 0 3) k).isLt
  omega

end

/-! ### The bytes of a merged register and of a split one -/

section
variable {left : Bool} {n byte j k : Nat}

theorem lane_shiftLeft (v : DWord) {c : Nat} (hc : c ≤ j) (hj : j < 8) : lane (v <<< (8 * c)) j = lane v (j - c) := by
  refine BitVec.eq_of_getLsbD_eq fun i hi => ?_
  unfold lane
  rw [BitVec.getLsbD_extractLsb', BitVec.getLsbD_extractLsb', BitVec.getLsbD_shiftLeft,
    show 8 * j + i - 8 * c = 8 * (j - c) + i by omega]
  simp [show 8 * j + i < 64 by omega, show ¬ 8 * j + i < 8 * c by omega]

theorem lane_shiftLeft_low (v : DWord) {c : Nat} (hj : j < c) : lane (v <<< (8 * c)) j = 0#8 := by
  refine BitVec.eq_of_getLsbD_eq fun i hi => ?_
  unfold lane
  rw [BitVec.getLsbD_extractLsb', BitVec.getLsbD_shiftLeft]
  simp [show 8 * j + i < 8 * c by omega]

theorem lane_shiftRight (v : DWord) (c j : Nat) : lane (v >>> (8 * c)) j = lane v (c + j) := by
  refine BitVec.eq_of_getLsbD_eq fun i hi => ?_
  unfold lane
  rw [BitVec.getLsbD_extractLsb', BitVec.getLsbD_extractLsb', BitVec.getLsbD_ushiftRight,
    show 8 * c + (8 * j + i) = 8 * (c + j) + i by omega]

theorem lane_and (a b : DWord) (j : Nat) : lane (a &&& b) j = lane a j &&& lane b j := by
  refine BitVec.eq_of_getLsbD_eq fun i hi => ?_
  simp [lane, hi]

theorem lane_or (a b : DWord) (j : Nat) : lane (a ||| b) j = lane a j ||| lane b j := by
  refine BitVec.eq_of_getLsbD_eq fun i hi => ?_
  simp [lane, hi]

/-- The low `n` bytes of a doubleword, as the pseudocode masks them. -/
def unitMask (n : Nat) : DWord := if n = 4 then 0xFFFFFFFF#64 else BitVec.allOnes 64

/-! The masks cover whole bytes. -/

theorem lane_unitMask : ∀ n ∈ unitSizes, ∀ j < 8,
    lane (unitMask n) j = if j < n then BitVec.allOnes 8 else 0#8 := by decide

theorem lane_unitMask_shifted : ∀ n ∈ unitSizes, ∀ byte < n, ∀ j < n,
    lane (unitMask n >>> (8 * byte)) j = (if byte + j < n then BitVec.allOnes 8 else 0#8) ∧
      lane (~~~ (unitMask n >>> (8 * byte))) j = if byte + j < n then 0#8 else BitVec.allOnes 8 := by decide

theorem lane_lowMask : ∀ c < 8, ∀ j < 8,
    lane (((1 <<< (8 * c) : Nat) : DWord) - 1) j = if j < c then BitVec.allOnes 8 else 0#8 := by decide

/-- What a left or right load makes of the register: the bytes moved, and its own (40_loads_stores R326, R327, R330,
R331). -/
theorem lane_mergeLoad (hn : n ∈ unitSizes) (hb : byte < n) (m old : DWord) (hk : k < n) :
    lane (mergeLoad left n byte m old) (movedPlace left n k) =
      if k < partialCount left n byte then lane m (movedLane left byte k) else lane old (movedPlace left n k) := by
  obtain ⟨-, hn8, -⟩ := unitSizes_bounds n hn
  cases left with
  | true =>
    simp only [mergeLoad, movedPlace, partialCount, movedLane, if_true]
    rw [lane_or, lane_and, lane_lowMask _ (by omega) _ (by omega)]
    by_cases hmoved : k < byte + 1
    · rw [if_neg (by omega), if_pos hmoved, lane_shiftLeft _ (by omega) (by omega),
        show n - 1 - k - (n - 1 - byte) = byte - k by omega, BitVec.and_zero, BitVec.or_zero]
    · rw [if_pos (by omega), if_neg hmoved, lane_shiftLeft_low _ (by omega), BitVec.and_allOnes, BitVec.zero_or]
  | false =>
    obtain ⟨hmask, hnot⟩ := lane_unitMask_shifted n hn byte hb k hk
    simp only [mergeLoad, movedPlace, partialCount, movedLane, Bool.false_eq_true, if_false]
    change lane (((m &&& unitMask n) >>> (8 * byte)) ||| (old &&& ~~~ (unitMask n >>> (8 * byte)))) k = _
    rw [lane_or, lane_shiftRight, lane_and, lane_and, ← lane_shiftRight (unitMask n), hmask, hnot]
    split
    · rw [if_pos (by omega), BitVec.and_allOnes, BitVec.and_zero, BitVec.or_zero]
    · rw [if_neg (by omega), BitVec.and_allOnes, BitVec.and_zero, BitVec.zero_or]

/-- What a left or right store sends: the bytes moved, in their lanes (40_loads_stores R328, R329, R332, R333). -/
theorem lane_splitStore (hn : n ∈ unitSizes) (hb : byte < n) (v : DWord) (hk : k < partialCount left n byte) :
    lane (splitStore left n byte v) (movedLane left byte k) = lane v (movedPlace left n k) := by
  obtain ⟨-, hn8, -⟩ := unitSizes_bounds n hn
  cases left with
  | true =>
    simp only [partialCount, if_true] at hk
    simp only [splitStore, movedPlace, movedLane, if_true]
    change lane ((v &&& unitMask n) >>> (8 * (n - 1 - byte))) (byte - k) = _
    rw [lane_shiftRight, lane_and, lane_unitMask n hn _ (by omega), if_pos (by omega),
      show n - 1 - byte + (byte - k) = n - 1 - k by omega, BitVec.and_allOnes]
  | false =>
    simp only [partialCount, Bool.false_eq_true, if_false] at hk
    simp only [splitStore, movedPlace, movedLane, Bool.false_eq_true, if_false]
    rw [lane_shiftLeft _ (by omega) (by omega), Nat.add_sub_cancel_left]

end

end Sys2Proof.Proofs

/-! ## Proofs: the unaligned loads and stores, uncached (O28, O31) -/

namespace Sys2Proof.Proofs
open Sys2Proof.Machine

section
variable {s : State} {base rt : Reg} {offset : BitVec 16} {left : Bool} {va : DWord} {pa : PAddr} {n k : Nat}

/-! ### From the instruction to its bytes -/

theorem exec_partialLoad {e : Instr × Bool × Nat} (he : e ∈ partialLoads base rt offset)
    (h64 : e.2.2 = 8 → s.ops64Enabled = true) :
    exec e.1 s = s.loadPartial base rt offset e.2.1 e.2.2 ∧ e.2.2 ∈ unitSizes := by
  simp only [partialLoads, List.mem_cons, List.not_mem_nil, or_false] at he
  rcases he with rfl | rfl | rfl | rfl
  · exact ⟨rfl, show 4 ∈ unitSizes by decide⟩
  · exact ⟨rfl, show 4 ∈ unitSizes by decide⟩
  · exact ⟨needs64_enabled (h64 rfl) _, show 8 ∈ unitSizes by decide⟩
  · exact ⟨needs64_enabled (h64 rfl) _, show 8 ∈ unitSizes by decide⟩

theorem exec_partialStore {e : Instr × Bool × Nat} (he : e ∈ partialStores base rt offset)
    (h64 : e.2.2 = 8 → s.ops64Enabled = true) :
    exec e.1 s = s.storePartial base rt offset e.2.1 e.2.2 ∧ e.2.2 ∈ unitSizes := by
  simp only [partialStores, List.mem_cons, List.not_mem_nil, or_false] at he
  rcases he with rfl | rfl | rfl | rfl
  · exact ⟨rfl, show 4 ∈ unitSizes by decide⟩
  · exact ⟨rfl, show 4 ∈ unitSizes by decide⟩
  · exact ⟨needs64_enabled (h64 rfl) _, show 8 ∈ unitSizes by decide⟩
  · exact ⟨needs64_enabled (h64 rfl) _, show 8 ∈ unitSizes by decide⟩

/-! ### Loads -/

/-- The register after an unaligned load of the doubleword `d`. -/
def mergedReg (s : State) (left : Bool) (n : Nat) (va d old : DWord) : DWord :=
  mergeLoad left n (byteIn s.bigEndianCPU va n) (d >>> unitShift s.bigEndianCPU va n) old

/-- An uncached unaligned load merges the doubleword of memory into the register. -/
theorem loadPartial_uncached (hn : n ∈ unitSizes) (hx : s.translate .load (s.address base offset) = .ok pa 2)
    (hplain : s.plain (partialAddr s.reverseEndian s.cfg.bigEndian left pa n)
      (s.movedBytes left n (s.address base offset))) :
    ∃ bus, let r := mergedReg s left n (s.address base offset) (memDword s.cfg.bigEndian s.settledMem
        (partialAddr s.reverseEndian s.cfg.bigEndian left pa n)) (s.readGpr rt)
      s.loadPartial base rt offset left n =
        (drained s bus).setGpr rt (if n = 4 then sext64 (low32 r) else r) := by
  obtain ⟨bus, hread⟩ := uncachedRead_data hplain (s.address base offset)
  refine ⟨bus, ?_⟩
  simp only [State.loadPartial, ← address_eq_ea, xlate_of_translate hx, Res.finish, State.memRead, if_pos,
    partialCount_eq hn, hread]
  rfl

/-- The bytes of the register after an unaligned load: those of memory, and its own. -/
theorem lane_mergedReg (hn : n ∈ unitSizes) (hoff : pa.toNat % 4096 = va.toNat % 4096) (old : DWord) (hk : k < n) :
    lane (mergedReg s left n va (memDword s.cfg.bigEndian s.settledMem
        (partialAddr s.reverseEndian s.cfg.bigEndian left pa n)) old) (movedPlace left n k) =
      if k < s.movedBytes left n va then s.byteAt (s.movedAddr left pa k) else lane old (movedPlace left n k) := by
  rw [mergedReg, lane_mergeLoad hn (byteIn_lt hn _ _) _ _ hk, partialCount_eq hn, unitShift_eq hoff, lane_shiftRight]
  refine if_ctx_congr Iff.rfl (fun hk => ?_) fun _ => rfl
  have hlt : s.movedAddr left pa k % 8 < 8 := Nat.mod_lt _ (by decide)
  rw [← laneOf_movedAddr hn hoff hk, lane_memDword _ _ _ (laneOf_lt _ hlt), laneOf_laneOf _ hlt,
    ← movedAddr_div8 hn hoff hk, Nat.div_add_mod']
  rfl

/-- A left form goes through its unit the other way: twice is back. -/
theorem movedPlace_movedPlace (left : Bool) (hk : k < n) :
    movedPlace left n k < n ∧ movedPlace left n (movedPlace left n k) = k := by
  unfold movedPlace
  split <;> omega

/-- A doubleword that is a signed word is its low half, sign-extended. -/
theorem sext64_low32_of_fits {v : DWord} (h : fits 32 v.toInt) : sext64 (low32 v) = v := by
  obtain ⟨hlo, hhi⟩ := h
  rw [sext64_low32, Int.bmod_eq_of_le (by omega) (by omega), BitVec.ofInt_toInt]

/-- The low halves are equal if their bytes are. -/
theorem low32_eq_of_lanes {a b : DWord} (h : ∀ j < 4, lane a j = lane b j) : low32 a = low32 b := by
  refine BitVec.eq_of_getLsbD_eq fun i hi => ?_
  have hbyte := congrArg (fun x : Byte => x.getLsbD (i % 8)) (h (i / 8) (by omega))
  simp only [lane, BitVec.getLsbD_extractLsb', Nat.div_add_mod, Nat.mod_lt i (show 8 > 0 by decide), decide_true,
    Bool.true_and] at hbyte
  simp only [low32, BitVec.getLsbD_setWidth, hbyte]

/-- The register an unaligned load leaves is known by its bytes. -/
theorem mergedReg_eq {r v : DWord} (hn : n ∈ unitSizes) (hlanes : ∀ j < n, lane r j = lane v j)
    (hfits : n = 4 → fits 32 v.toInt) : (if n = 4 then sext64 (low32 r) else r) = v := by
  simp only [List.mem_cons, List.not_mem_nil, or_false] at hn
  rcases hn with rfl | rfl
  · rw [if_pos rfl, low32_eq_of_lanes hlanes, sext64_low32_of_fits (hfits rfl)]
  · rw [if_neg (by decide), eq_of_lanes hlanes]

/-! ### Stores -/

/-- A store through the write buffer changes memory alone. -/
theorem pushWrite_onlyMemory {at_ : PAddr} {d : DWord} (hplain : s.plain at_ n) :
    ∃ t, s.pushWrite at_ n d = .ok () t ∧ t.settledMem = storeLanes s.cfg.bigEndian s.settledMem at_ n d ∧
      s.onlyMemory t.retire ∧ s.Continued t.retire := by
  obtain ⟨t, ht, hset, hrest⟩ := pushWrite_quiet hplain d
  refine ⟨t, ht, hset, ⟨fun x hx => ?_, ?_⟩, ?_⟩
  · rw [retire_hist, hrest] at hx
    rcases List.mem_cons.mp hx with rfl | hx
    · exact .inr rfl
    · exact .inl hx
  · rw [retire_rest, hrest]
  · apply continued_of <;> rw [hrest]

/-- A store of `n` bytes from `at_` through the write buffer, whose `k`-th byte goes to `addr k`. -/
theorem pushWrite_bytes {at_ : PAddr} {d : DWord} {addr : Nat → Nat} {byte : Nat → Byte} {down : Bool}
    (hmem : Memory.wf s.mem = true) (hplain : s.plain at_ n)
    (haddr : ∀ k < n, addr k = at_.toNat + bytePlace down n k) (hdword : ∀ k < n, addr k / 8 = at_.toNat / 8)
    (hbyte : ∀ k < n, lane d (laneOf s.cfg.bigEndian (addr k % 8)) = byte k) :
    ∃ t, s.pushWrite at_ n d = .ok () t ∧ s.Stored t.retire n addr byte := by
  obtain ⟨t, ht, hset, hframe, hcont⟩ := pushWrite_onlyMemory (d := d) hplain
  refine ⟨t, ht, fun k hk => ?_, fun a ha => ?_, hframe, hcont⟩
  · have hplace := bytePlace_lt (be := down) hk
    have hk8 := hdword k hk
    rw [haddr k hk] at hk8
    rw [State.byteAt, retire_settledMem, hset, storeLanes, haddr k hk, storeBytes_read (settledMem_wf hmem) _ _ hplace,
      ← hbyte k hk, haddr k hk]
    congr 2
    omega
  · rw [State.byteAt, retire_settledMem, hset, storeLanes]
    refine storeBytes_read_other _ _ _ _ ?_
    by_contra hin
    have hlt : a - at_.toNat < n := by omega
    refine ha _ (bytePlace_lt (be := down) hlt) ?_
    rw [haddr _ (bytePlace_lt hlt), bytePlace_bytePlace hlt]
    omega

/-- An uncached unaligned store sends its bytes to the write buffer. -/
theorem storePartial_uncached (hn : n ∈ unitSizes) (hx : s.translate .store (s.address base offset) = .ok pa 2) :
    s.storePartial base rt offset left n =
      (s.pushWrite (partialAddr s.reverseEndian s.cfg.bigEndian left pa n)
        (s.movedBytes left n (s.address base offset))
        (splitStore left n (byteIn s.bigEndianCPU (s.address base offset) n) (s.readGpr rt) <<<
          unitShift s.bigEndianCPU (s.address base offset) n)).finish fun _ t => t.done := by
  simp only [State.storePartial, ← address_eq_ea, xlate_of_translate hx, Res.finish, State.memWrite, if_pos,
    partialCount_eq hn]

/-- The lanes of the bytes it sends. -/
theorem lane_sent (hn : n ∈ unitSizes) (hoff : pa.toNat % 4096 = va.toNat % 4096) (v : DWord)
    (hk : k < s.movedBytes left n va) :
    lane (splitStore left n (byteIn s.bigEndianCPU va n) v <<< unitShift s.bigEndianCPU va n)
      (laneOf s.cfg.bigEndian (s.movedAddr left pa k % 8)) = byteOf v (movedPlace left n k) := by
  have hlt : laneOf s.cfg.bigEndian (s.movedAddr left pa k % 8) < 8 := laneOf_lt _ (Nat.mod_lt _ (by decide))
  rw [laneOf_movedAddr hn hoff hk] at hlt ⊢
  rw [unitShift_eq hoff, lane_shiftLeft _ (by omega) hlt, Nat.add_sub_cancel_left,
    lane_splitStore hn (byteIn_lt hn _ _) v (by rwa [partialCount_eq hn])]
  rfl

end

/-- Settles O28: the bytes of the merged register are those the statement gives, so it is the register. -/
theorem unalignedLoads : Obligations.UnalignedLoads := by
  intro s base rt offset pa v e he h64 va count hmaps hplain hmoved hkept hfits
  have hoff := mod_page_of_maps hmaps
  obtain ⟨hx, -⟩ := hmaps
  obtain ⟨hexec, hn⟩ := exec_partialLoad he h64
  obtain ⟨bus, hload⟩ := loadPartial_uncached (rt := rt) hn hx hplain
  obtain ⟨t, ht, hloaded, -⟩ := setGpr_loaded s bus rt v
  refine ⟨t, ?_, hloaded⟩
  have hplaces : ∀ k < e.2.2, lane (mergedReg s e.2.1 e.2.2 va (memDword s.cfg.bigEndian s.settledMem
      (partialAddr s.reverseEndian s.cfg.bigEndian e.2.1 pa e.2.2)) (s.readGpr rt)) (movedPlace e.2.1 e.2.2 k) =
      lane v (movedPlace e.2.1 e.2.2 k) := fun k hk => by
    rw [lane_mergedReg hn hoff _ hk]
    split
    · exact (hmoved k ‹_›).symm
    · exact (hkept k hk (not_lt.mp ‹_›)).symm
  rw [hexec, hload, mergedReg_eq hn (fun j hj => ?_) hfits, ht]
  obtain ⟨hlt, hback⟩ := movedPlace_movedPlace e.2.1 hj
  rw [← hback]
  exact hplaces _ hlt

/-- Settles O31: the bytes the store sends are those from the address to the end of its unit, in their lanes. -/
theorem unalignedStores : Obligations.UnalignedStores := by
  intro s base rt offset pa e he h64 va hwf hmaps hplain
  have hoff := mod_page_of_maps hmaps
  obtain ⟨hmem, -⟩ := hwf
  obtain ⟨hx, -⟩ := hmaps
  obtain ⟨hexec, hn⟩ := exec_partialStore he h64
  obtain ⟨t, ht, hstored⟩ := pushWrite_bytes hmem hplain (fun k hk => movedAddr_eq hn hoff hk)
    (fun k hk => movedAddr_div8 hn hoff hk) fun k hk => lane_sent hn hoff (s.readGpr rt) hk
  refine ⟨t.retire, ?_, hstored⟩
  rw [hexec, storePartial_uncached hn hx, ht]
  rfl

end Sys2Proof.Proofs

/-! ## Proofs: arithmetic, logic and comparison (41_alu)

An instruction of these families ends in one of four ways: it writes a general register, it writes HI and LO, or it is a
32-bit or 64-bit operation that may trap on overflow. Each ending is settled once; of an instruction there is then only
to say which ending it has, with its result as an exact integer. -/

namespace Sys2Proof.Proofs
open Sys2Proof.Machine

section
variable {s : State} {i : Instr} {rs rt rd : Reg} {imm : BitVec 16} {z : Int}

/-! ### Instructions that write a general register -/

theorem completes_setGpr {v : DWord} (h : exec i s = s.setGpr rd v) : s.completes i (s.Wrote · rd v) := by
  obtain ⟨t, ht, hw⟩ := setGpr_wrote s rd v
  exact ⟨t, h.trans ht, hw⟩

/-- The result of a bitwise instruction is known by its bits. -/
theorem completes_of_bits {v w : DWord} (h : exec i s = s.setGpr rd w)
    (hbits : ∀ k < 64, v.getLsbD k = w.getLsbD k) : s.completes i (s.Wrote · rd v) := by
  rw [BitVec.eq_of_getLsbD_eq hbits]
  exact completes_setGpr h

/-- The result of a comparison is 1 or 0. -/
theorem completes_of_test {p : Prop} [Decidable p] (h : exec i s = s.setGpr rd (boolWord (decide p))) :
    s.completes i (s.Wrote · rd (if p then 1 else 0)) := by
  have hword : boolWord (decide p) = if p then 1 else 0 := by simp only [boolWord, decide_eq_true_iff]
  rw [← hword]
  exact completes_setGpr h

/-- A register written with some value, as the statement on open results has it. -/
theorem completes_setGpr_some {v : DWord} (h : exec i s = s.setGpr rd v) :
    s.completes i fun t => ∃ v, s.Wrote t rd v := by
  obtain ⟨t, ht, hw⟩ := completes_setGpr h
  exact ⟨t, ht, v, hw⟩

/-! ### Operands and results as exact integers -/

/-- The overflow test asks whether the exact result fits (41_alu R360 item 4). -/
theorem overflows_iff {n : Nat} : overflows n z = true ↔ ¬ fits n z := by
  simp only [overflows, fits, Bool.or_eq_true, decide_eq_true_iff]
  omega

/-- A doubleword is sign-extended if it is a signed number of 32 bits (10_state R33). -/
theorem isSext32_of_fits {v : DWord} (h : fits 32 v.toInt) : isSext32 v = true := by
  rw [isSext32, sext64_low32_of_fits h]
  exact beq_self_eq_true v

theorem low32_eq_ofInt (v : DWord) : low32 v = BitVec.ofInt 32 v.toInt :=
  (BitVec.signExtend_eq_setWidth_of_le v (by decide)).symm

theorem low32_add (a b : DWord) : low32 a + low32 b = BitVec.ofInt 32 (a.toInt + b.toInt) := by
  rw [low32_eq_ofInt, low32_eq_ofInt, BitVec.ofInt_add]

theorem low32_sub (a b : DWord) : low32 a - low32 b = BitVec.ofInt 32 (a.toInt - b.toInt) := by
  refine BitVec.eq_of_toInt_eq ?_
  rw [low32_eq_ofInt, low32_eq_ofInt, BitVec.toInt_sub]
  simp only [BitVec.toInt_ofInt, Int.sub_bmod_bmod, Int.bmod_sub_bmod]

theorem low32_add_imm (a : DWord) (imm : BitVec 16) :
    low32 a + imm.signExtend 32 = BitVec.ofInt 32 (a.toInt + imm.toInt) := by
  rw [low32_eq_ofInt, BitVec.ofInt_add]
  rfl

theorem add_eq_ofInt {n : Nat} (a b : BitVec n) : a + b = BitVec.ofInt n (a.toInt + b.toInt) := by
  rw [BitVec.ofInt_add, BitVec.ofInt_toInt, BitVec.ofInt_toInt]

theorem sub_eq_ofInt {n : Nat} (a b : BitVec n) : a - b = BitVec.ofInt n (a.toInt - b.toInt) :=
  BitVec.eq_of_toInt_eq (by rw [BitVec.toInt_sub, BitVec.toInt_ofInt])

/-- The low half of a sign-extended doubleword is the same number. -/
theorem toInt_low32_of_fits {v : DWord} (h : fits 32 v.toInt) : (low32 v).toInt = v.toInt := by
  obtain ⟨hlo, hhi⟩ := h
  rw [low32_eq_ofInt, BitVec.toInt_ofInt_eq_self (by decide) hlo hhi]

theorem toInt_sext64 {n : Nat} (hn : n ≤ 64) (v : BitVec n) : (sext64 v).toInt = v.toInt :=
  BitVec.toInt_signExtend_of_le hn

/-- A 32-bit result, sign-extended: the exact one reduced to 32 signed bits. -/
theorem sext64_ofInt32 (z : Int) : sext64 (BitVec.ofInt 32 z) = BitVec.ofInt 64 (z.bmod (2 ^ 32)) := by
  rw [sext64, BitVec.signExtend, BitVec.toInt_ofInt]

theorem sext64_ofInt32_of_fits (h : fits 32 z) : sext64 (BitVec.ofInt 32 z) = BitVec.ofInt 64 z := by
  obtain ⟨hlo, hhi⟩ := h
  rw [sext64_ofInt32, Int.bmod_eq_of_le (by omega) (by omega)]

/-- A 64-bit result wraps. -/
theorem ofInt64_bmod (z : Int) : BitVec.ofInt 64 (z.bmod (2 ^ 64)) = BitVec.ofInt 64 z :=
  BitVec.eq_of_toInt_eq (by rw [BitVec.toInt_ofInt, BitVec.toInt_ofInt, Int.bmod_bmod])

/-! ### Operations that trap on overflow -/

/-- A 32-bit operation on sign-extended operands whose exact result is `z`. -/
theorem trap32_exact (h : exec i s = s.trap32 true (overflows 32 z) rd (BitVec.ofInt 32 z)) :
    (fits 32 z → s.completes i (s.Wrote · rd (BitVec.ofInt 64 z))) ∧ (¬ fits 32 z → s.traps i .overflow) := by
  refine ⟨fun hz => ?_, fun hz => ?_⟩
  · rw [← sext64_ofInt32_of_fits hz]
    have hno : ¬ overflows 32 z = true := fun ho => overflows_iff.mp ho hz
    exact completes_setGpr (h.trans (if_neg hno))
  · exact h.trans (if_pos (overflows_iff.mpr hz))

/-- A 64-bit operation whose exact result is `z`. -/
theorem trap64_exact (h : exec i s = s.trap64 (overflows 64 z) rd (BitVec.ofInt 64 z)) :
    (fits 64 z → s.completes i (s.Wrote · rd (BitVec.ofInt 64 z))) ∧ (¬ fits 64 z → s.traps i .overflow) := by
  refine ⟨fun hz => ?_, fun hz => ?_⟩
  · exact completes_setGpr (h.trans (if_neg fun ho => overflows_iff.mp ho hz))
  · exact h.trans (if_pos (overflows_iff.mpr hz))

/-- Whatever its operands are, a 32-bit operation traps or writes its destination. -/
theorem trap32_open {ok overflow : Bool} {v : Word} (h : exec i s = s.trap32 ok overflow rd v) :
    s.traps i .overflow ∨ s.completes i fun t => ∃ v, s.Wrote t rd v := by
  by_cases htrap : (if ok then overflow else s.pick .overflow32) = true
  · exact .inl (h.trans (if_pos htrap))
  · exact .inr (completes_setGpr_some (h.trans (if_neg htrap)))

/-- A wrapping 32-bit operation on sign-extended operands whose exact result is `z`. -/
theorem wrap32_exact (h : exec i s = s.setGpr rd (s.word32 true (BitVec.ofInt 32 z))) :
    s.completes i (s.Wrote · rd (BitVec.ofInt 64 (z.bmod (2 ^ 32)))) := by
  rw [← sext64_ofInt32]
  exact completes_setGpr h

/-- A wrapping 64-bit operation whose exact result is `z`. -/
theorem wrap64_exact (h : exec i s = s.setGpr rd (BitVec.ofInt 64 z)) :
    s.completes i (s.Wrote · rd (BitVec.ofInt 64 (z.bmod (2 ^ 64)))) := by
  rw [ofInt64_bmod]
  exact completes_setGpr h

/-! ### The 32-bit sums and differences -/

section
variable (ha : fits 32 (s.readGpr rs).toInt)
include ha

theorem exec_addi : exec (.addi rs rt imm) s =
    s.trap32 true (overflows 32 ((s.readGpr rs).toInt + imm.toInt)) rt
      (BitVec.ofInt 32 ((s.readGpr rs).toInt + imm.toInt)) := by
  have himm : (imm.signExtend 32).toInt = imm.toInt := BitVec.toInt_signExtend_of_le (by decide)
  rw [← low32_add_imm, ← isSext32_of_fits ha, ← himm, ← toInt_low32_of_fits ha]
  rfl

theorem exec_addiu : exec (.addiu rs rt imm) s =
    s.setGpr rt (s.word32 true (BitVec.ofInt 32 ((s.readGpr rs).toInt + imm.toInt))) := by
  rw [← low32_add_imm, ← isSext32_of_fits ha]
  rfl

variable (hb : fits 32 (s.readGpr rt).toInt)
include hb

theorem both_sext32 : (isSext32 (s.readGpr rs) && isSext32 (s.readGpr rt)) = true := by
  rw [isSext32_of_fits ha, isSext32_of_fits hb, Bool.and_true]

theorem exec_add : exec (.add rs rt rd) s =
    s.trap32 true (overflows 32 ((s.readGpr rs).toInt + (s.readGpr rt).toInt)) rd
      (BitVec.ofInt 32 ((s.readGpr rs).toInt + (s.readGpr rt).toInt)) := by
  rw [← low32_add, ← both_sext32 ha hb, ← toInt_low32_of_fits ha, ← toInt_low32_of_fits hb]
  rfl

theorem exec_sub : exec (.sub rs rt rd) s =
    s.trap32 true (overflows 32 ((s.readGpr rs).toInt - (s.readGpr rt).toInt)) rd
      (BitVec.ofInt 32 ((s.readGpr rs).toInt - (s.readGpr rt).toInt)) := by
  rw [← low32_sub, ← both_sext32 ha hb, ← toInt_low32_of_fits ha, ← toInt_low32_of_fits hb]
  rfl

theorem exec_addu : exec (.addu rs rt rd) s =
    s.setGpr rd (s.word32 true (BitVec.ofInt 32 ((s.readGpr rs).toInt + (s.readGpr rt).toInt))) := by
  rw [← low32_add, ← both_sext32 ha hb]
  rfl

theorem exec_subu : exec (.subu rs rt rd) s =
    s.setGpr rd (s.word32 true (BitVec.ofInt 32 ((s.readGpr rs).toInt - (s.readGpr rt).toInt))) := by
  rw [← low32_sub, ← both_sext32 ha hb]
  rfl

end

/-! ### The 64-bit sums and differences -/

section
variable (h64 : s.ops64Enabled = true)
include h64

theorem exec_dadd : exec (.dadd rs rt rd) s =
    s.trap64 (overflows 64 ((s.readGpr rs).toInt + (s.readGpr rt).toInt)) rd
      (BitVec.ofInt 64 ((s.readGpr rs).toInt + (s.readGpr rt).toInt)) := by
  rw [← add_eq_ofInt]
  exact needs64_enabled h64 _

theorem exec_dsub : exec (.dsub rs rt rd) s =
    s.trap64 (overflows 64 ((s.readGpr rs).toInt - (s.readGpr rt).toInt)) rd
      (BitVec.ofInt 64 ((s.readGpr rs).toInt - (s.readGpr rt).toInt)) := by
  rw [← sub_eq_ofInt]
  exact needs64_enabled h64 _

theorem exec_daddi : exec (.daddi rs rt imm) s =
    s.trap64 (overflows 64 ((s.readGpr rs).toInt + imm.toInt)) rt
      (BitVec.ofInt 64 ((s.readGpr rs).toInt + imm.toInt)) := by
  rw [← toInt_sext64 (by decide) imm, ← add_eq_ofInt]
  exact needs64_enabled h64 _

theorem exec_daddu : exec (.daddu rs rt rd) s =
    s.setGpr rd (BitVec.ofInt 64 ((s.readGpr rs).toInt + (s.readGpr rt).toInt)) := by
  rw [← add_eq_ofInt]
  exact needs64_enabled h64 _

theorem exec_dsubu : exec (.dsubu rs rt rd) s =
    s.setGpr rd (BitVec.ofInt 64 ((s.readGpr rs).toInt - (s.readGpr rt).toInt)) := by
  rw [← sub_eq_ofInt]
  exact needs64_enabled h64 _

theorem exec_daddiu : exec (.daddiu rs rt imm) s =
    s.setGpr rt (BitVec.ofInt 64 ((s.readGpr rs).toInt + imm.toInt)) := by
  rw [← toInt_sext64 (by decide) imm, ← add_eq_ofInt]
  exact needs64_enabled h64 _

end

/-! ### Immediates -/

theorem getLsbD_zext64 {k : Nat} (hk : k < 64) : (zext64 imm).getLsbD k = imm.getLsbD k := by
  rw [zext64, BitVec.getLsbD_setWidth, decide_eq_true hk, Bool.true_and]

/-- LUI's result, as a number (41_alu R381). -/
theorem toInt_lui (imm : BitVec 16) : (sext64 (imm ++ (0 : BitVec 16))).toInt = imm.toInt * 65536 := by
  rw [toInt_sext64 (by decide), Int.mul_comm]
  exact BitVec.toInt_append_zero

/-! ### Instructions that write HI and LO -/

/-- An instruction that writes HI or LO only writes the destinations of the MFHI and MFLO among the last two
instructions that read what it writes (42_shifts_muldiv R434). -/
theorem loseHiLoReads_keeps {P : State → Prop} {hi lo : Bool} (hs : P s)
    (hwrite : ∀ h ∈ s.hist, 1 ≤ h.age ∧ h.age ≤ 2 → ∀ isHi r, h.what = .hiLoRead isHi r →
      (if isHi then hi else lo) = true → ∀ u v, P u → P (u.writeGpr r v)) : P (s.loseHiLoReads hi lo) := by
  unfold State.loseHiLoReads
  refine List.foldlRecOn _ _ hs fun u hu h hh => ?_
  split
  case h_1 isHi r hwhat =>
    by_cases hlost : (inWindow 2 h.age && if isHi then hi else lo) = true
    · rw [if_pos hlost]
      simp only [inWindow, Bool.and_eq_true, decide_eq_true_iff] at hlost
      obtain ⟨hage, hwritten⟩ := hlost
      exact hwrite h hh hage isHi r hwhat hwritten u _ hu
    · rw [if_neg hlost]
      exact hu
  case h_2 => exact hu

/-- It changes nothing but general registers. -/
theorem loseHiLoReads_rest (s : State) (hi lo : Bool) :
    s.loseHiLoReads hi lo = { s with gpr := (s.loseHiLoReads hi lo).gpr } := by
  refine loseHiLoReads_keeps (P := fun u => u = { s with gpr := u.gpr }) rfl fun _ _ _ _ r _ _ u v hu => ?_
  have hrest := writeGpr_rest u r v
  rw [hu] at hrest ⊢
  exact hrest

/-- A register that no MFHI or MFLO of the last two instructions wrote is as before. -/
theorem loseHiLoReads_gprHeld {r : Reg} {hi lo : Bool} (hr : ∀ h ∈ s.hist, 1 ≤ h.age ∧ h.age ≤ 2 →
      ∀ isHi, (if isHi then hi else lo) = true → h.what ≠ .hiLoRead isHi r) :
    (s.loseHiLoReads hi lo).gprHeld r = s.gprHeld r := by
  refine loseHiLoReads_keeps (P := fun u => u.gprHeld r = s.gprHeld r) rfl
    fun h hh hage isHi q hwhat hwritten u v hu => ?_
  have hne : r ≠ q := by
    rintro rfl
    exact hr h hh hage isHi hwritten hwhat
  rw [gprHeld_writeGpr, if_neg hne, hu]

/-- Writing HI and LO as the last thing an instruction does. -/
theorem setHiLo_wrote (s : State) (hi lo : DWord) : ∃ t, s.setHiLo hi lo = .next t ∧ s.WroteHiLo t hi lo := by
  have hrest := loseHiLoReads_rest s true true
  refine ⟨_, rfl, ?_⟩
  refine { hi := ?_, lo := ?_, frame := ⟨fun r hr => ?_, fun a => ?_, ?_, fun h hh => ?_⟩, continued := ?_ }
  · rw [retire_rest]
  · rw [retire_rest]
  · rw [retire_rest]
    refine loseHiLoReads_gprHeld fun h hh hage isHi _ => ?_
    obtain ⟨hmfhi, hmflo⟩ := hr h hh hage
    cases isHi
    · exact hmflo
    · exact hmfhi
  · rw [retire_rest, hrest]
  · rw [retire_rest, hrest]
  · rw [retire_rest, hrest] at hh
    exact hh
  · apply continued_of <;> rw [hrest]

theorem completes_setHiLo {hi lo : DWord} (h : exec i s = s.setHiLo hi lo) : s.completes i (s.WroteHiLo · hi lo) := by
  obtain ⟨t, ht, hw⟩ := setHiLo_wrote s hi lo
  exact ⟨t, h.trans ht, hw⟩

theorem completes_setHiLo_some {hi lo : DWord} (h : exec i s = s.setHiLo hi lo) :
    s.completes i fun t => ∃ hi lo, s.WroteHiLo t hi lo := by
  obtain ⟨t, ht, hw⟩ := completes_setHiLo h
  exact ⟨t, ht, hi, lo, hw⟩

/-- A 32-bit multiply or divide completes, its result open or not (42_shifts_muldiv R420, R424). -/
theorem setHiLo32_open {ok : Bool} {hi lo : Word} (h : exec i s = s.setHiLo32 ok hi lo) :
    s.completes i fun t => ∃ hi lo, s.WroteHiLo t hi lo := by
  cases ok
  · exact completes_setHiLo_some h
  · exact completes_setHiLo_some h

/-- A 64-bit divide completes, its result open or not (42_shifts_muldiv R424). -/
theorem setHiLo64_open {ok : Bool} {hi lo : DWord} (h : exec i s = s.setHiLo64 ok hi lo) :
    s.completes i fun t => ∃ hi lo, s.WroteHiLo t hi lo := by
  cases ok
  · exact completes_setHiLo_some h
  · exact completes_setHiLo_some h

end

/-! ### The obligations -/

/-- Settles O12: on sign-extended operands the model's words stand for the exact integers, and its overflow test is
whether the exact result fits. -/
theorem addSub32 : Obligations.AddSub32 := by
  intro s rs rt rd imm a b c ha
  obtain ⟨addi_fits, addi_traps⟩ := trap32_exact (exec_addi (rt := rt) (imm := imm) ha)
  refine ⟨addi_fits, addi_traps, wrap32_exact (exec_addiu ha), fun hb => ?_⟩
  obtain ⟨add_fits, add_traps⟩ := trap32_exact (exec_add (rd := rd) ha hb)
  obtain ⟨sub_fits, sub_traps⟩ := trap32_exact (exec_sub (rd := rd) ha hb)
  exact ⟨add_fits, add_traps, sub_fits, sub_traps, wrap32_exact (exec_addu ha hb), wrap32_exact (exec_subu ha hb)⟩

/-- Settles O13: every form begins with the test for 64-bit operations; behind it stands the operation on exact
integers. -/
theorem addSub64 : Obligations.AddSub64 := by
  intro s rs rt rd imm a b c
  refine ⟨fun h64 i hi => ?_, fun h64 => ?_⟩
  · simp only [List.mem_cons, List.not_mem_nil, or_false] at hi
    rcases hi with rfl | rfl | rfl | rfl | rfl | rfl <;> exact needs64_disabled h64 _
  · obtain ⟨dadd_fits, dadd_traps⟩ := trap64_exact (exec_dadd (rs := rs) (rt := rt) (rd := rd) h64)
    obtain ⟨dsub_fits, dsub_traps⟩ := trap64_exact (exec_dsub (rs := rs) (rt := rt) (rd := rd) h64)
    obtain ⟨daddi_fits, daddi_traps⟩ := trap64_exact (exec_daddi (rs := rs) (rt := rt) (imm := imm) h64)
    exact ⟨dadd_fits, dadd_traps, dsub_fits, dsub_traps, daddi_fits, daddi_traps, wrap64_exact (exec_daddu h64),
      wrap64_exact (exec_dsubu h64), wrap64_exact (exec_daddiu h64)⟩

/-- Settles O14: a logical result is known by its bits, LUI's by its number, and a comparison is one of the integers
the registers and the immediate stand for. -/
theorem logicAndCompare : Obligations.LogicAndCompare := by
  intro s rs rt rd imm v a b c
  refine ⟨fun h => ?and, fun h => ?or, fun h => ?xor, fun h => ?nor, fun h => ?andi, fun h => ?ori, fun h => ?xori,
    fun h => ?lui, completes_of_test rfl, completes_of_test rfl, ?slti, completes_of_test rfl⟩
  case and => exact completes_of_bits rfl fun k hk => by rw [h k hk, BitVec.getLsbD_and]
  case or => exact completes_of_bits rfl fun k hk => by rw [h k hk, BitVec.getLsbD_or]
  case xor => exact completes_of_bits rfl fun k hk => by rw [h k hk, BitVec.getLsbD_xor]
  case nor =>
    refine completes_of_bits rfl fun k hk => ?_
    rw [h k hk, BitVec.getLsbD_not, BitVec.getLsbD_or, decide_eq_true hk, Bool.true_and]
  case andi => exact completes_of_bits rfl fun k hk => by rw [h k hk, BitVec.getLsbD_and, getLsbD_zext64 hk]
  case ori => exact completes_of_bits rfl fun k hk => by rw [h k hk, BitVec.getLsbD_or, getLsbD_zext64 hk]
  case xori => exact completes_of_bits rfl fun k hk => by rw [h k hk, BitVec.getLsbD_xor, getLsbD_zext64 hk]
  case lui =>
    rw [BitVec.eq_of_toInt_eq (h.trans (toInt_lui imm).symm)]
    exact completes_setGpr rfl
  case slti =>
    rw [← toInt_sext64 (by decide) imm]
    exact completes_of_test rfl

/-- Settles O15: whether a result is open decides only which value is written, or whether the instruction traps. -/
theorem openResultsComplete : Obligations.OpenResultsComplete := by
  intro s rs rt rd sa imm
  refine ⟨fun i hi => ?word, completes_setGpr_some rfl, trap32_open rfl, trap32_open rfl, trap32_open rfl,
    fun i hi => ?mulDiv32, fun h64 i hi => ?div64⟩
  all_goals simp only [List.mem_cons, List.not_mem_nil, or_false] at hi
  case word =>
    rcases hi with rfl | rfl | rfl | rfl | rfl | rfl | rfl | rfl <;> exact completes_setGpr_some rfl
  case mulDiv32 => rcases hi with rfl | rfl | rfl | rfl <;> exact setHiLo32_open rfl
  case div64 => rcases hi with rfl | rfl <;> exact setHiLo64_open (needs64_enabled h64 _)

end Sys2Proof.Proofs

/-! ## Proofs: shifts (42_shifts_muldiv R400 to R415)

A shift is a multiplication or a division by a power of two, said once for every width; of an instruction there is then
only to say which shift it is and by how much. -/

namespace Sys2Proof.Proofs
open Sys2Proof.Machine

section
variable {s : State} {i : Instr} {rd : Reg}

/-! ### Shifts as multiplications and divisions -/

theorem toInt_emod_two_pow {w : Nat} (v : BitVec w) : v.toInt % 2 ^ w = v.toNat := by
  have hcast : ((2 ^ w : Nat) : Int) = 2 ^ w := Int.natCast_pow 2 w
  have hlt : (v.toNat : Int) < 2 ^ w := hcast ▸ Int.ofNat_lt.mpr v.isLt
  rw [BitVec.toInt_eq_toNat_bmod, ← hcast, Int.bmod_emod, hcast, Int.emod_eq_of_lt (Int.natCast_nonneg _) hlt]

theorem shiftLeft_eq_ofNat {w : Nat} (v : BitVec w) (n : Nat) : v <<< n = BitVec.ofNat w (v.toNat * 2 ^ n) := by
  refine BitVec.eq_of_toNat_eq ?_
  rw [BitVec.toNat_shiftLeft, Nat.shiftLeft_eq, BitVec.toNat_ofNat]

theorem shiftLeft_eq_ofInt {w : Nat} (v : BitVec w) (n : Nat) : v <<< n = BitVec.ofInt w (v.toInt * 2 ^ n) := by
  have hpow : BitVec.ofInt w (2 ^ n) = BitVec.twoPow w n := by
    refine BitVec.eq_of_toNat_eq ?_
    rw [BitVec.toNat_twoPow, ← BitVec.toNat_ofNat, ← BitVec.ofInt_natCast, Int.natCast_pow]
    rfl
  rw [BitVec.shiftLeft_eq_mul_twoPow, BitVec.ofInt_mul, BitVec.ofInt_toInt, hpow]

theorem ushiftRight_eq_ofNat {w : Nat} (v : BitVec w) (n : Nat) : v >>> n = BitVec.ofNat w (v.toNat / 2 ^ n) := by
  rw [← Nat.shiftRight_eq_div_pow, ← BitVec.toNat_ushiftRight, BitVec.ofNat_toNat, BitVec.setWidth_eq]

theorem ushiftRight_eq_ofInt {w : Nat} (v : BitVec w) (n : Nat) :
    v >>> n = BitVec.ofInt w (v.toInt % 2 ^ w / 2 ^ n) := by
  have hcast : ((v.toNat / 2 ^ n : Nat) : Int) = v.toInt % 2 ^ w / 2 ^ n := by
    rw [toInt_emod_two_pow, Int.natCast_ediv, Int.natCast_pow]
    rfl
  rw [ushiftRight_eq_ofNat, ← BitVec.ofInt_natCast, hcast]

theorem sshiftRight_eq_ofInt {w : Nat} (v : BitVec w) (n : Nat) :
    v.sshiftRight n = BitVec.ofInt w (v.toInt / 2 ^ n) := by
  have hpow : ((2 ^ n : Nat) : Int) = 2 ^ n := Int.natCast_pow 2 n
  rw [← hpow, ← Int.shiftRight_eq_div_pow, ← BitVec.toInt_sshiftRight, BitVec.ofInt_toInt]

theorem shiftBy5_eq (v : DWord) : shiftBy5 v = v.toNat % 32 := by
  rw [shiftBy5, BitVec.extractLsb'_toNat, Nat.shiftRight_zero]

theorem shiftBy6_eq (v : DWord) : shiftBy6 v = v.toNat % 64 := by
  rw [shiftBy6, BitVec.extractLsb'_toNat, Nat.shiftRight_zero]

/-! ### The 32-bit shifts -/

section
variable {v : DWord} {n : Nat} (hv : fits 32 v.toInt)
include hv

/-- A right shift with the sign stays a signed number of 32 bits. -/
theorem fits_ediv_two_pow : fits 32 (v.toInt / 2 ^ n) := by
  obtain ⟨hlo, hhi⟩ := hv
  have hpos : (0 : Int) < 2 ^ n := by positivity
  have hone : (1 : Int) ≤ 2 ^ n := hpos
  refine ⟨(Int.le_ediv_iff_mul_le hpos).mpr ?_, (Int.ediv_lt_iff_lt_mul hpos).mpr ?_⟩
  · nlinarith
  · nlinarith

theorem shift32_eq {w : Word} (h : exec i s = s.shift32 v rd w) : exec i s = s.setGpr rd (s.word32 true w) := by
  rw [h, State.shift32, isSext32_of_fits hv]

theorem completes_shiftLeft32 (h : exec i s = s.shift32 v rd (low32 v <<< n)) :
    s.completes i (s.Wrote · rd (BitVec.ofInt 64 ((v.toInt * 2 ^ n).bmod (2 ^ 32)))) := by
  refine wrap32_exact ?_
  rw [shift32_eq hv h, shiftLeft_eq_ofInt, toInt_low32_of_fits hv]

theorem completes_ushiftRight32 (h : exec i s = s.shift32 v rd (low32 v >>> n)) :
    s.completes i (s.Wrote · rd (BitVec.ofInt 64 ((v.toInt % 2 ^ 32 / 2 ^ n).bmod (2 ^ 32)))) := by
  refine wrap32_exact ?_
  rw [shift32_eq hv h, ushiftRight_eq_ofInt, toInt_low32_of_fits hv]

theorem completes_sshiftRight32 (h : exec i s = s.shift32 v rd ((low32 v).sshiftRight n)) :
    s.completes i (s.Wrote · rd (BitVec.ofInt 64 (v.toInt / 2 ^ n))) := by
  refine completes_setGpr ?_
  rw [shift32_eq hv h, sshiftRight_eq_ofInt, toInt_low32_of_fits hv, ← sext64_ofInt32_of_fits (fits_ediv_two_pow hv)]
  rfl

end

/-! ### The 64-bit shifts -/

section
variable (h64 : s.ops64Enabled = true) {v : DWord} {n : Nat}
include h64

theorem completes_shiftLeft64 (h : exec i s = s.needs64 (s.setGpr rd (v <<< n))) :
    s.completes i (s.Wrote · rd (BitVec.ofNat 64 (v.toNat * 2 ^ n))) := by
  rw [← shiftLeft_eq_ofNat]
  exact completes_setGpr (h.trans (needs64_enabled h64 _))

theorem completes_ushiftRight64 (h : exec i s = s.needs64 (s.setGpr rd (v >>> n))) :
    s.completes i (s.Wrote · rd (BitVec.ofNat 64 (v.toNat / 2 ^ n))) := by
  rw [← ushiftRight_eq_ofNat]
  exact completes_setGpr (h.trans (needs64_enabled h64 _))

theorem completes_sshiftRight64 (h : exec i s = s.needs64 (s.setGpr rd (v.sshiftRight n))) :
    s.completes i (s.Wrote · rd (BitVec.ofInt 64 (v.toInt / 2 ^ n))) := by
  rw [← sshiftRight_eq_ofInt]
  exact completes_setGpr (h.trans (needs64_enabled h64 _))

end

end

/-! ### The obligations -/

/-- Settles O16: each of the three shifts is said once for every amount. -/
theorem shift32Result : Obligations.Shift32Result := by
  intro s rs rt rd sa
  dsimp only
  intro ha
  rw [← shiftBy5_eq]
  exact ⟨completes_shiftLeft32 ha rfl, completes_ushiftRight32 ha rfl, completes_sshiftRight32 ha rfl,
    completes_shiftLeft32 ha rfl, completes_ushiftRight32 ha rfl, completes_sshiftRight32 ha rfl⟩

/-- Settles O17: each of the three shifts is said once for every amount. -/
theorem shift64Result : Obligations.Shift64Result := by
  intro s rs rt rd sa
  dsimp only
  rw [← shiftBy6_eq, Nat.add_comm sa.toNat 32]
  refine ⟨fun h64 i hi => ?reserved, fun h64 => ?enabled⟩
  case reserved =>
    simp only [List.mem_cons, List.not_mem_nil, or_false] at hi
    rcases hi with rfl | rfl | rfl | rfl | rfl | rfl | rfl | rfl | rfl <;> exact needs64_disabled h64 _
  case enabled =>
    exact ⟨completes_shiftLeft64 h64 rfl, completes_shiftLeft64 h64 rfl, completes_shiftLeft64 h64 rfl,
      completes_ushiftRight64 h64 rfl, completes_ushiftRight64 h64 rfl, completes_ushiftRight64 h64 rfl,
      completes_sshiftRight64 h64 rfl, completes_sshiftRight64 h64 rfl, completes_sshiftRight64 h64 rfl⟩

end Sys2Proof.Proofs

/-! ## Proofs: multiply, divide, HI and LO (42_shifts_muldiv R420 to R434)

HI and LO are the two halves of a product: that the halves make up the whole is said once for every width, as a signed
and as an unsigned number. A quotient or remainder is an exact integer, which a 32-bit form reduces to 32 bits. -/

namespace Sys2Proof.Proofs
open Sys2Proof.Machine

section
variable {s : State} {i : Instr} {rs rt : Reg}

/-! ### The halves of a product -/

theorem toInt_halves {w : Nat} (hw : 0 < w) (t : BitVec (w + w)) :
    (t.extractLsb' w w).toInt * 2 ^ w + (t.extractLsb' 0 w).toNat = t.toInt := by
  have hne : ¬ (w == 0) = true := fun h => hw.ne' (beq_iff_eq.mp h)
  conv_rhs => rw [← BitVec.extractLsb'_eq_self (x := t),
    ← BitVec.extractLsb'_append_extractLsb'_eq_extractLsb' (Nat.zero_add w).symm, BitVec.toInt_append, if_neg hne,
    Int.mul_comm]

theorem toNat_halves {w : Nat} (t : BitVec (w + w)) :
    (t.extractLsb' w w).toNat * 2 ^ w + (t.extractLsb' 0 w).toNat = t.toNat := by
  conv_rhs => rw [← BitVec.extractLsb'_eq_self (x := t),
    ← BitVec.extractLsb'_append_extractLsb'_eq_extractLsb' (Nat.zero_add w).symm, BitVec.toNat_append,
    ← Nat.shiftLeft_add_eq_or_of_lt (BitVec.isLt _), Nat.shiftLeft_eq]

theorem fits_sext64 (v : Word) : fits 32 (sext64 v).toInt := by
  rw [toInt_sext64 (by decide)]
  exact ⟨BitVec.le_toInt v, BitVec.toInt_lt⟩

theorem sext64_emod (v : Word) : (sext64 v).toInt % 2 ^ 32 = v.toNat := by
  rw [toInt_sext64 (by decide), toInt_emod_two_pow]

theorem low32_eq_half (t : DWord) : low32 t = t.extractLsb' 0 32 := BitVec.setWidth_eq_extractLsb' (by decide)

/-- The sign-extended halves of a 64-bit product, read as a signed number. -/
theorem sext64_halves_signed (t : DWord) :
    (sext64 (high32 t)).toInt * 2 ^ 32 + (sext64 (low32 t)).toInt % 2 ^ 32 = t.toInt := by
  rw [toInt_sext64 (by decide), sext64_emod, low32_eq_half]
  exact toInt_halves (w := 32) (by decide) t

/-- The sign-extended halves of a 64-bit product, read as an unsigned number. -/
theorem sext64_halves_unsigned (t : DWord) :
    (sext64 (high32 t)).toInt % 2 ^ 32 * 2 ^ 32 + (sext64 (low32 t)).toInt % 2 ^ 32 = t.toNat := by
  rw [sext64_emod, sext64_emod, low32_eq_half]
  exact_mod_cast toNat_halves (w := 32) t

/-! ### Products -/

/-- A signed product has room in twice the width. -/
theorem toInt_mul_signExtend {w : Nat} (hw : 0 < w) (x y : BitVec w) :
    (x.signExtend (w + w) * y.signExtend (w + w)).toInt = x.toInt * y.toInt := by
  have hle : x.toInt * y.toInt ≤ 2 ^ (w * 2 - 2) := BitVec.toInt_mul_toInt_le
  have hge : -(2 ^ (w * 2 - 2)) ≤ x.toInt * y.toInt := BitVec.le_toInt_mul_toInt
  have hpos : (0 : Int) < 2 ^ (w * 2 - 2) := by positivity
  have hsize : ((2 ^ (w + w) : Nat) : Int) = 2 ^ (w * 2 - 2) * 4 := by
    rw [show w + w = w * 2 - 2 + 2 by omega]
    push_cast
    ring
  rw [BitVec.toInt_mul, BitVec.toInt_signExtend_of_le (by omega), BitVec.toInt_signExtend_of_le (by omega),
    Int.bmod_eq_of_le (by omega) (by omega)]

/-- An unsigned product has room in twice the width. -/
theorem toNat_mul_setWidth {w : Nat} (x y : BitVec w) :
    (x.setWidth (w + w) * y.setWidth (w + w)).toNat = x.toNat * y.toNat := by
  have hlt : x.toNat * y.toNat < 2 ^ (w + w) := by
    rw [Nat.pow_add]
    exact Nat.mul_lt_mul'' x.isLt y.isLt
  rw [BitVec.toNat_mul, BitVec.toNat_setWidth_of_le (by omega), BitVec.toNat_setWidth_of_le (by omega),
    Nat.mod_eq_of_lt hlt]

/-! ### Quotients -/

theorem umod_eq_ofInt {w : Nat} (a b : BitVec w) :
    a % b = BitVec.ofInt w (a.toInt % 2 ^ w % (b.toInt % 2 ^ w)) := by
  rw [toInt_emod_two_pow, toInt_emod_two_pow, ← Int.natCast_emod, BitVec.ofInt_natCast, BitVec.umod_def]

theorem udiv_eq_ofInt {w : Nat} (a b : BitVec w) :
    a / b = BitVec.ofInt w (a.toInt % 2 ^ w / (b.toInt % 2 ^ w)) := by
  rw [toInt_emod_two_pow, toInt_emod_two_pow, ← Int.natCast_ediv, BitVec.ofInt_natCast, BitVec.udiv_def]

/-- A remainder is smaller than the divisor, and so a number of 32 bits. -/
theorem fits_tmod {a b : Int} (hb : fits 32 b) (hne : b ≠ 0) : fits 32 (a.tmod b) := by
  obtain ⟨hlo, hhi⟩ := hb
  have hlt : (a.tmod b).natAbs < b.natAbs := by
    rw [Int.natAbs_tmod]
    exact Nat.mod_lt _ (Int.natAbs_pos.mpr hne)
  exact ⟨by omega, by omega⟩

/-! ### Instructions that write HI and LO -/

/-- A result known by what its two halves are together. -/
theorem completes_setHiLo_as {hi lo : DWord} {p : DWord → DWord → Prop} (h : exec i s = s.setHiLo hi lo)
    (hp : p hi lo) : s.completes i fun t => ∃ hi lo, s.WroteHiLo t hi lo ∧ p hi lo := by
  obtain ⟨t, ht, hw⟩ := completes_setHiLo h
  exact ⟨t, ht, hi, lo, hw, hp⟩

section
variable (hx : fits 32 (s.readGpr rs).toInt) (hy : fits 32 (s.readGpr rt).toInt)
include hx hy

theorem setHiLo32_defined {hi lo : Word} (h : exec i s = s.setHiLo32 (s.mulOk rs rt) hi lo) :
    exec i s = s.setHiLo (sext64 hi) (sext64 lo) := by
  rw [h, State.mulOk, both_sext32 hx hy]
  rfl

theorem setHiLo32_divided {hi lo : Word} (hne : s.readGpr rt ≠ 0)
    (h : exec i s = s.setHiLo32 (s.mulOk rs rt && low32 (s.readGpr rt) != 0) hi lo) :
    exec i s = s.setHiLo (sext64 hi) (sext64 lo) := by
  have hlow : low32 (s.readGpr rt) ≠ 0 := fun h0 => hne (by rw [← sext64_low32_of_fits hy, h0]; rfl)
  rw [bne_iff_ne.mpr hlow, Bool.and_true] at h
  exact setHiLo32_defined hx hy h

end

theorem setHiLo64_divided {hi lo : DWord} (h64 : s.ops64Enabled = true) (hne : s.readGpr rt ≠ 0)
    (h : exec i s = s.needs64 (s.setHiLo64 (s.readGpr rt != 0) hi lo)) : exec i s = s.setHiLo hi lo := by
  rw [h, needs64_enabled h64, bne_iff_ne.mpr hne]
  rfl

/-! ### The moves from and to HI and LO -/

/-- What is seen of a register written late does not depend on the record of late writes. -/
theorem wroteLate_withHist {t : State} {r : Reg} {v : DWord} (h : s.WroteLate t r v) (hist : List Hazard) :
    s.WroteLate { t with hist := hist } r v := by
  obtain ⟨hresult, ⟨hothers, hbytes, hrest⟩, ⟨hpc, hslot, hrandom⟩⟩ := h
  exact ⟨hresult, ⟨hothers, hbytes, by rw [hrest]⟩, ⟨hpc, hslot, hrandom⟩⟩

theorem writeGpr_withFresh (s : State) (fresh : Bool) (r : Reg) (v : DWord) :
    { s with hiloFresh := fresh }.writeGpr r v = { s.writeGpr r v with hiloFresh := fresh } := by
  unfold State.writeGpr
  split <;> rfl

/-- An MFHI or MFLO writes a register as any instruction does, and is remembered (42_shifts_muldiv R434). -/
theorem readHiLo_eq (s : State) (isHi : Bool) (r : Reg) :
    s.readHiLo isHi r = .next { ({ s with hiloFresh := false }.writeGpr r (if isHi then s.hi else s.lo)).retire with
      hist := { age := 0, what := .hiLoRead isHi r } :: s.hist } := by
  rw [State.readHiLo, State.done, retire_rest, retire_rest, writeGpr_withFresh s false, State.note, writeGpr_hist]
  rfl

theorem completes_readHiLo {isHi : Bool} {r : Reg} (h : exec i s = s.readHiLo isHi r) :
    s.completes i ({ s with hiloFresh := false }.WroteLate · r (if isHi then s.hi else s.lo)) := by
  obtain ⟨t, ht, hw⟩ := setGpr_wrote { s with hiloFresh := false } r (if isHi then s.hi else s.lo)
  cases ht
  exact ⟨_, h.trans (readHiLo_eq s isHi r), wroteLate_withHist hw.toWroteLate _⟩

/-- An MTHI or MTLO writes one of the two and gives the other the value it is to have; it leaves open only registers that
read the one it writes, which the frame of HI and LO allows (42_shifts_muldiv R432 to R434). -/
theorem moveToHiLo_wrote (s : State) (isHi isLo : Bool) (a b : DWord) :
    s.WroteHiLo { s.loseHiLoReads isHi isLo with hi := a, lo := b, hiloFresh := false }.retire a b := by
  have hrest := loseHiLoReads_rest s isHi isLo
  refine { hi := ?_, lo := ?_, frame := ⟨fun r hr => ?_, fun a => ?_, ?_, fun h hh => ?_⟩, continued := ?_ }
  · rw [retire_rest]
  · rw [retire_rest]
  · rw [retire_rest]
    refine loseHiLoReads_gprHeld fun h hh hage isHi _ => ?_
    obtain ⟨hmfhi, hmflo⟩ := hr h hh hage
    cases isHi
    · exact hmflo
    · exact hmfhi
  · rw [retire_rest, hrest]
  · rw [retire_rest, hrest]
  · rw [retire_rest, hrest] at hh
    exact hh
  · apply continued_of <;> rw [hrest]

end

/-! ### The obligations -/

/-- Settles O18: a product has room in twice the width, and HI and LO are its halves. -/
theorem multiplyResult : Obligations.MultiplyResult := by
  intro s rs rt
  dsimp only
  refine ⟨fun hx hy => ⟨?mult, ?multu⟩, fun h64 => ⟨?dmult, ?dmultu⟩, fun h64 i hi => ?reserved⟩
  case mult =>
    refine completes_setHiLo_as (setHiLo32_defined hx hy rfl) ⟨fits_sext64 _, fits_sext64 _, ?_⟩
    rw [sext64_halves_signed, ← toInt_low32_of_fits hx, ← toInt_low32_of_fits hy]
    exact toInt_mul_signExtend (w := 32) (by decide) _ _
  case multu =>
    refine completes_setHiLo_as (setHiLo32_defined hx hy rfl) ⟨fits_sext64 _, fits_sext64 _, ?_⟩
    rw [sext64_halves_unsigned, ← toInt_low32_of_fits hx, ← toInt_low32_of_fits hy, toInt_emod_two_pow,
      toInt_emod_two_pow, ← Int.natCast_mul]
    exact congrArg Int.ofNat (toNat_mul_setWidth (w := 32) _ _)
  case dmult =>
    refine completes_setHiLo_as (needs64_enabled h64 _) ?_
    exact (toInt_halves (w := 64) (by decide) _).trans (toInt_mul_signExtend (by decide) _ _)
  case dmultu =>
    refine completes_setHiLo_as (needs64_enabled h64 _) ?_
    exact (toNat_halves (w := 64) _).trans (toNat_mul_setWidth _ _)
  case reserved =>
    simp only [List.mem_cons, List.not_mem_nil, or_false] at hi
    rcases hi with rfl | rfl <;> exact needs64_disabled h64 _

/-- Settles O19: quotient and remainder are those of the exact integers, each reduced to the width of the operation. -/
theorem divideResult : Obligations.DivideResult := by
  intro s rs rt
  dsimp only
  intro hne
  refine ⟨fun hx hy => ⟨?div, ?divu⟩, fun h64 => ⟨?ddiv, ?ddivu⟩⟩
  case div =>
    have hint : (s.readGpr rt).toInt ≠ 0 := fun h0 => hne (BitVec.eq_of_toInt_eq h0)
    rw [← sext64_ofInt32, ← sext64_ofInt32_of_fits (fits_tmod hy hint), ← toInt_low32_of_fits hx,
      ← toInt_low32_of_fits hy]
    exact completes_setHiLo (setHiLo32_divided hx hy hne rfl)
  case divu =>
    rw [← sext64_ofInt32, ← sext64_ofInt32, ← toInt_low32_of_fits hx, ← toInt_low32_of_fits hy,
      ← umod_eq_ofInt, ← udiv_eq_ofInt]
    exact completes_setHiLo (setHiLo32_divided hx hy hne rfl)
  case ddiv => exact completes_setHiLo (setHiLo64_divided h64 hne rfl)
  case ddivu =>
    rw [← BitVec.umod_def, ← BitVec.udiv_def]
    exact completes_setHiLo (setHiLo64_divided h64 hne rfl)

/-- Settles O20: whether the pair is fresh decides only what the other half receives. -/
theorem hiLoMoves : Obligations.HiLoMoves := by
  intro s r
  refine ⟨completes_readHiLo (isHi := true) rfl, completes_readHiLo (isHi := false) rfl, fun hf => ?mthi,
    fun hf => ?mtlo, fun hf => ?mthiFresh, fun hf => ?mtloFresh⟩
  case mthi =>
    refine ⟨_, rfl, ?_⟩
    rw [hf]
    exact moveToHiLo_wrote s true false _ _
  case mtlo =>
    refine ⟨_, rfl, ?_⟩
    rw [hf]
    exact moveToHiLo_wrote s false true _ _
  case mthiFresh => exact ⟨_, rfl, by rw [retire_rest], _, moveToHiLo_wrote s true false _ _⟩
  case mtloFresh => exact ⟨_, rfl, by rw [retire_rest], _, moveToHiLo_wrote s false true _ _⟩

end Sys2Proof.Proofs

/-! ## Proofs: jumps and branches (43_jumps_branches)

Every jump and branch ends in one of three ways: with a delay slot before it goes to its target, past the slot that a
likely branch not taken nullifies, or, standing in a delay slot itself, with the program counter and the links open.
Each ending is settled once; of an instruction there is then only to say its target and which integers it compares. -/

namespace Sys2Proof.Proofs
open Sys2Proof.Machine

section
variable {s : State} {i : Instr} {p : Pending} {link : Reg} {target v : DWord} {taken likely : Bool}
  {offset : BitVec 16}

/-! ### Targets -/

/-- The region of the slot, the 26-bit index and two zero bits, as a number (43_jumps_branches R442). -/
theorem jumpTarget_eq (s : State) (target : BitVec 26) :
    s.jumpTarget target = BitVec.ofNat 64 ((s.pc + 4).toNat / 2 ^ 28 * 2 ^ 28 + target.toNat * 4) := by
  have hpc : (s.pc + 4).toNat < 2 ^ 64 := (s.pc + 4).isLt
  have hindex : target.toNat < 2 ^ 26 := target.isLt
  have hregion : ((s.pc + 4).extractLsb' 28 36).toNat = (s.pc + 4).toNat / 2 ^ 28 := by
    rw [BitVec.extractLsb'_toNat, Nat.shiftRight_eq_div_pow, Nat.mod_eq_of_lt (by omega)]
  have hwhole : (s.jumpTarget target).toNat = ((s.pc + 4).toNat / 2 ^ 28 * 2 ^ 26 + target.toNat) * 2 ^ 2 := by
    rw [State.jumpTarget, BitVec.toNat_append, BitVec.toNat_append, hregion,
      ← Nat.shiftLeft_add_eq_or_of_lt hindex, Nat.shiftLeft_eq, Nat.shiftLeft_eq]
    exact Nat.or_zero _
  refine BitVec.eq_of_toNat_eq ?_
  rw [hwhole, BitVec.toNat_ofNat, Nat.mod_eq_of_lt (by omega)]
  omega

/-- The offset counts words from the delay slot on (43_jumps_branches R441). -/
theorem branchTarget_eq (s : State) (offset : BitVec 16) :
    s.branchTarget offset = BitVec.ofInt 64 (s.pc.toInt + 4 + 4 * offset.toInt) := by
  rw [State.branchTarget, shiftLeft_eq_ofInt, toInt_sext64 (by decide), BitVec.ofInt_add, BitVec.ofInt_add,
    BitVec.ofInt_toInt, Int.mul_comm]
  rfl

/-! ### Conditions -/

theorem isNeg_iff (v : DWord) : isNeg v = true ↔ v.toInt < 0 := by
  rw [isNeg, ← BitVec.msb_eq_getLsbD_last, BitVec.msb_eq_toInt, decide_eq_true_iff]

theorem isLez_iff (v : DWord) : isLez v = true ↔ v.toInt ≤ 0 := by
  rw [isLez, Bool.or_eq_true, isNeg_iff, beq_iff_eq, ← BitVec.toInt_inj, Int.le_iff_lt_or_eq]
  rfl

theorem not_isNeg_iff (v : DWord) : (!isNeg v) = true ↔ 0 ≤ v.toInt := by
  rw [Bool.not_eq_true', ← Bool.not_eq_true, isNeg_iff, Int.not_lt]

theorem not_isLez_iff (v : DWord) : (!isLez v) = true ↔ 0 < v.toInt := by
  rw [Bool.not_eq_true', ← Bool.not_eq_true, isLez_iff, Int.not_le]

theorem beq_iff_toInt (v w : DWord) : (v == w) = true ↔ v.toInt = w.toInt := by
  rw [beq_iff_eq, BitVec.toInt_inj]

theorem bne_iff_toInt (v w : DWord) : (v != w) = true ↔ v.toInt ≠ w.toInt := by
  rw [bne_iff_ne, Ne, Ne, BitVec.toInt_inj]

/-! ### Outside a delay slot -/

/-- What a branch links and leaves unchanged does not depend on where control goes. -/
theorem branchLinked_withPc {t : State} (h : s.BranchLinked t link v) (pc : DWord) (pending : Option Pending) :
    s.BranchLinked { t with pc := pc, pending := pending } link v := by
  obtain ⟨hresult, ⟨hothers, hbytes, hrest⟩, hlate, hrandom⟩ := h
  exact ⟨hresult, ⟨hothers, hbytes, by rw [hrest]⟩, hlate, hrandom⟩

section
variable (hp : s.pending = none)
include hp

theorem completes_jump (h : exec i s = s.jump target link v) :
    s.completes i fun t => s.BranchLinked t link v ∧ s.slotThen t target link := by
  obtain ⟨t, ht, hlinked⟩ := jump_linked s hp target link v
  exact ⟨t, h.trans ht, hlinked⟩

theorem completes_branch_taken (h : exec i s = s.branch true likely offset link) :
    s.completes i fun t => s.BranchLinked t link (s.pc + 8) ∧
      s.slotThen t (BitVec.ofInt 64 (s.pc.toInt + 4 + 4 * offset.toInt)) link := by
  rw [← branchTarget_eq]
  exact completes_jump hp h

theorem completes_branch_untaken (h : exec i s = s.branch false false offset link) :
    s.completes i fun t => s.BranchLinked t link (s.pc + 8) ∧ s.slotThen t (s.pc + 8) link :=
  completes_jump hp h

/-- The link of a branch outside a delay slot, before it says where control goes. -/
theorem stepRandom_linked (link : Reg) (v : DWord) : s.BranchLinked (s.writeGpr link v).stepRandom link v := by
  obtain ⟨t, ht, hlinked, -⟩ := jump_linked s hp 0 link v
  rw [State.jump, hp] at ht
  cases ht
  exact branchLinked_withPc hlinked _ _

/-- A likely branch that is not taken links as a jump does, and goes on past the slot (43_jumps_branches R440). -/
theorem completes_branch_nullified (h : exec i s = s.branch false true offset link) :
    s.completes i fun t => s.BranchLinked t link (s.pc + 8) ∧ t.pc = s.pc + 8 ∧ t.pending = none := by
  have hend : s.branch false true offset link =
      .next { (s.writeGpr link (s.pc + 8)).stepRandom with pc := s.pc + 8 } := by
    simp only [State.branch, hp, Bool.false_eq_true, if_false, if_true]
  have hpending : (s.writeGpr link (s.pc + 8)).pending = none := by rw [writeGpr_rest]; exact hp
  exact ⟨_, h.trans hend, branchLinked_withPc (stepRandom_linked hp _ _) _ _, rfl, hpending⟩

/-- An ordinary branch and its likely form, by the condition `c` they test (43_jumps_branches R440, R441). -/
theorem completes_branch {c : Prop} {j : Instr} (hc : taken = true ↔ c)
    (hi : exec i s = s.branch taken false offset link) (hj : exec j s = s.branch taken true offset link) :
    let dest := BitVec.ofInt 64 (s.pc.toInt + 4 + 4 * offset.toInt)
    let linked := fun t => s.BranchLinked t link (s.pc + 8)
    (c → s.completes i (fun t => linked t ∧ s.slotThen t dest link) ∧
      s.completes j fun t => linked t ∧ s.slotThen t dest link) ∧
    (¬ c → s.completes i (fun t => linked t ∧ s.slotThen t (s.pc + 8) link) ∧
      s.completes j fun t => linked t ∧ t.pc = s.pc + 8 ∧ t.pending = none) := by
  refine ⟨fun h => ?_, fun h => ?_⟩
  · rw [hc.mpr h] at hi hj
    exact ⟨completes_branch_taken hp hi, completes_branch_taken hp hj⟩
  · rw [Bool.eq_false_iff.mpr (mt hc.mp h)] at hi hj
    exact ⟨completes_branch_untaken hp hi, completes_branch_nullified hp hj⟩

end

/-! ### In a delay slot (43_jumps_branches R464 item 1) -/

/-- How a jump or branch with link register `link` ends in the delay slot of `p`. -/
def SlotEnded (s : State) (p : Pending) (link : Reg) (t : State) : Prop :=
  t.pending = none ∧ (∀ r : Reg, r ≠ p.link → r ≠ link → t.gprHeld r = s.gprHeld r) ∧
  (∀ a : Nat, Memory.read t.mem a = Memory.read s.mem a) ∧
  t = { s with
    gpr := t.gpr, pc := t.pc, pending := t.pending, hist := t.hist
    cp0 := { s.cp0 with random := t.cp0.random } }

theorem slotJump_ended (s : State) (p : Pending) (link : Reg) :
    ∃ t, s.slotJump p link = .next t ∧ SlotEnded s p link t := by
  refine ⟨_, rfl, rfl, fun r hr hlink => ?_, fun a => ?_, ?_⟩
  · show ((s.writeGpr p.link _).writeGpr link _).gprHeld r = _
    rw [gprHeld_writeGpr, if_neg hlink, gprHeld_writeGpr, if_neg hr]
  · rw [writeGpr_rest _ link, writeGpr_rest s p.link]
    rfl
  · rw [writeGpr_rest _ link, writeGpr_rest s p.link]
    rfl

section
variable (hp : s.pending = some p)
include hp

theorem jump_inSlot (target : DWord) (link : Reg) (v : DWord) : s.jump target link v = s.slotJump p link := by
  simp only [State.jump, hp]

/-- Taken or not, likely or not: in a delay slot a branch ends as a jump does. -/
theorem branch_inSlot (taken likely : Bool) (offset : BitVec 16) (link : Reg) :
    s.branch taken likely offset link = s.slotJump p link := by
  unfold State.branch
  split
  case isTrue => exact jump_inSlot hp _ _ _
  case isFalse =>
    split
    case isTrue => simp only [hp]
    case isFalse => exact jump_inSlot hp _ _ _

theorem completes_jump_inSlot (h : exec i s = s.jump target link v) : s.completes i (SlotEnded s p link) := by
  obtain ⟨t, ht, hend⟩ := slotJump_ended s p link
  exact ⟨t, (h.trans (jump_inSlot hp _ _ _)).trans ht, hend⟩

theorem completes_branch_inSlot (h : exec i s = s.branch taken likely offset link) :
    s.completes i (SlotEnded s p link) := by
  obtain ⟨t, ht, hend⟩ := slotJump_ended s p link
  exact ⟨t, (h.trans (branch_inSlot hp _ _ _ _)).trans ht, hend⟩

theorem completes_cop_branch_inSlot {z : Nat} (husable : s.copUsable z = true)
    (h : exec i s = s.needsCop z (s.branch taken likely offset link)) : s.completes i (SlotEnded s p link) :=
  completes_branch_inSlot hp (h.trans (needsCop_usable husable _))

end

/-! ### JALR -/

/-- JALR names its target in one register and its link in another, or it links nothing (43_jumps_branches R445). -/
theorem exec_jalr {rs rd : Reg} (h : rs ≠ rd ∨ rd = 0) :
    exec (.jalr rs rd) s = s.jump (s.readGpr rs) rd (s.pc + 8) := by
  refine if_neg fun hsame => ?_
  rw [Bool.and_eq_true, decide_eq_true_iff, bne_iff_ne] at hsame
  obtain ⟨heq, hne⟩ := hsame
  exact h.elim (· heq) hne

/-- With one register for both, target and link are open (U45). -/
theorem exec_jalr_same {rd : Reg} (h : rd ≠ 0) :
    exec (.jalr rd rd) s = s.jump (s.freeWord .jalrTarget) rd (s.freeWord .jalrLink) :=
  if_pos (Bool.and_eq_true_iff.mpr ⟨decide_eq_true rfl, bne_iff_ne.mpr h⟩)

/-- Whichever it is, JALR is a jump that links to `rd`. -/
theorem exec_jalr_jump (s : State) (rs rd : Reg) : ∃ target v, exec (.jalr rs rd) s = s.jump target rd v := by
  by_cases h : rs ≠ rd ∨ rd = 0
  · exact ⟨_, _, exec_jalr h⟩
  · obtain ⟨hsame, hne⟩ := not_or.mp h
    rw [not_ne_iff.mp hsame]
    exact ⟨_, _, exec_jalr_same hne⟩

end

/-! ### The obligations -/

/-- Settles O21: each of the four is a jump; only JALR's target and link depend on its registers. -/
theorem jumps : Obligations.Jumps := by
  intro s target rs rd hp
  dsimp only
  rw [← jumpTarget_eq]
  refine ⟨completes_jump hp rfl, completes_jump hp rfl, completes_jump hp rfl, fun h => ?apart,
    fun hsame hne => ?same⟩
  case apart => exact completes_jump hp (exec_jalr h)
  case same =>
    subst hsame
    obtain ⟨t, ht, hlinked⟩ := completes_jump hp (exec_jalr_same hne)
    exact ⟨t, ht, _, _, hlinked⟩

/-- Settles O22: a branch and its likely form share their condition, which is one on the integers the registers hold or
on the floating-point condition. -/
theorem branches : Obligations.Branches := by
  intro s rs rt offset hp
  dsimp only
  intro e he husable
  simp only [List.mem_cons, List.not_mem_nil, or_false] at he
  rcases he with rfl | rfl | rfl | rfl | rfl | rfl | rfl | rfl | rfl | rfl
  · exact completes_branch hp (beq_iff_toInt _ _) rfl rfl
  · exact completes_branch hp (bne_iff_toInt _ _) rfl rfl
  · exact completes_branch hp (isLez_iff _) rfl rfl
  · exact completes_branch hp (not_isLez_iff _) rfl rfl
  · exact completes_branch hp (isNeg_iff _) rfl rfl
  · exact completes_branch hp (not_isNeg_iff _) rfl rfl
  · exact completes_branch hp (isNeg_iff _) rfl rfl
  · exact completes_branch hp (not_isNeg_iff _) rfl rfl
  · have hcop := husable (.inl rfl)
    exact completes_branch hp (Bool.not_eq_true' _).to_iff (needsCop_usable hcop _) (needsCop_usable hcop _)
  · have hcop := husable (.inr rfl)
    exact completes_branch hp Iff.rfl (needsCop_usable hcop _) (needsCop_usable hcop _)

/-- Settles O23: in a delay slot every jump and branch ends the same way, whatever its condition and target. -/
theorem branchInSlot : Obligations.BranchInSlot := by
  intro s p rs rt rd o target hp
  refine ⟨fun i hi => ?plain, fun i hi => ?linking, ?jalr, fun e he husable i hi => ?cop⟩
  case plain =>
    simp only [List.mem_cons, List.not_mem_nil, or_false] at hi
    obtain rfl | rfl | hi := hi
    · exact completes_jump_inSlot hp rfl
    · exact completes_jump_inSlot hp rfl
    · rcases hi with rfl | rfl | rfl | rfl | rfl | rfl | rfl | rfl | rfl | rfl | rfl | rfl <;>
        exact completes_branch_inSlot hp rfl
  case linking =>
    simp only [List.mem_cons, List.not_mem_nil, or_false] at hi
    obtain rfl | hi := hi
    · exact completes_jump_inSlot hp rfl
    · rcases hi with rfl | rfl | rfl | rfl <;> exact completes_branch_inSlot hp rfl
  case jalr =>
    obtain ⟨dest, v, h⟩ := exec_jalr_jump s rs rd
    exact completes_jump_inSlot hp h
  case cop =>
    simp only [List.mem_cons, List.not_mem_nil, or_false] at he
    rcases he with rfl | rfl | rfl
    all_goals
      simp only [List.mem_cons, List.not_mem_nil, or_false] at hi
      rcases hi with rfl | rfl | rfl | rfl <;> exact completes_cop_branch_inSlot hp husable rfl

end Sys2Proof.Proofs

/-! ## Proofs: SYNC, SYSCALL, BREAK and the conditional traps (44_traps_special)

SYNC drains the write buffer: what each write puts on the bus, and whether it is accepted, is said once for one write
and then for a list of them. Every conditional trap ends the same way; of an instruction there is then only to say which
integers it compares. -/

namespace Sys2Proof.Proofs
open Sys2Proof.Machine

/-! ### Sending buffered writes -/

section
variable {s u : State} {e : WEntry} {l : List WEntry}

/-- The request of an entry has its form in every machine of the same parameters (61_system_interface R784, R785). -/
theorem sent_requestOf (h : u.cfg = s.cfg) (e : WEntry) : s.sent e (u.requestOf e) := by
  cases e with
  | word pa n d => exact ⟨_, _, by rw [State.requestOf, h]⟩
  | line pa d par retained slot => exact ⟨_, by rw [State.requestOf, h]⟩

/-- A write the external agent never accepts stops the machine (20_memory R162, log 18). -/
theorem sendWrite_noResponse (h : s.cfg.kindOf e = some .noResponse) :
    s.sendWrite e = .stop (.fault .writeNotAccepted) := if_pos h

/-- Every other write leaves as one request. -/
theorem sendWrite_accepted (h : s.cfg.kindOf e ≠ some .noResponse) :
    ∃ t, s.sendWrite e = .ok () t ∧ t.cfg = s.cfg ∧ t.bus = s.requestOf e :: s.bus := by
  unfold State.sendWrite
  dsimp only
  rw [if_neg h]
  split
  · exact ⟨_, rfl, rfl, rfl⟩
  · exact ⟨_, rfl, rfl, rfl⟩

/-- Accepted writes leave in order, a request for each. -/
theorem sendAll_accepted (hcfg : u.cfg = s.cfg) (h : ∀ e ∈ l, s.cfg.kindOf e ≠ some .noResponse) :
    ∃ sent t, State.sendAll l u = .ok () t ∧ t.cfg = s.cfg ∧ t.bus = sent.reverse ++ u.bus ∧
      List.Forall₂ s.sent l sent := by
  induction l generalizing u with
  | nil => exact ⟨[], u, rfl, hcfg, rfl, .nil⟩
  | cons e l ih =>
    obtain ⟨hhead, htail⟩ := List.forall_mem_cons.mp h
    obtain ⟨v, hsend, hv, hbus⟩ := sendWrite_accepted (s := u) (by rw [hcfg]; exact hhead)
    obtain ⟨sent, t, hall, ht, htbus, hsent⟩ := ih (hv.trans hcfg) htail
    refine ⟨u.requestOf e :: sent, t, ?_, ht, ?_, .cons (sent_requestOf hcfg e) hsent⟩
    · rw [State.sendAll, hsend]
      exact hall
    · rw [htbus, hbus, List.reverse_cons, List.append_assoc]
      rfl

theorem sendAll_append (before after : List WEntry) (s : State) :
    State.sendAll (before ++ after) s = (State.sendAll before s).bind fun _ t => State.sendAll after t := by
  induction before generalizing s with
  | nil => rfl
  | cons e l ih =>
    rw [List.cons_append, State.sendAll, State.sendAll]
    cases s.sendWrite e with
    | ok a t => exact ih t
    | stop o => rfl

/-- The first write that is not accepted stops the machine, whatever stands behind it. -/
theorem sendAll_noResponse (before after : List WEntry) (hbefore : ∀ b ∈ before, s.cfg.kindOf b ≠ some .noResponse)
    (he : s.cfg.kindOf e = some .noResponse) (hcfg : u.cfg = s.cfg) :
    State.sendAll (before ++ e :: after) u = .stop (.fault .writeNotAccepted) := by
  obtain ⟨_, t, hsend, ht, -, -⟩ := sendAll_accepted hcfg hbefore
  have hstop := sendWrite_noResponse (s := t) (e := e) (by rw [ht]; exact he)
  rw [sendAll_append, hsend, Res.bind, State.sendAll, hstop, Res.bind]

/-- Memory that answers is not a region without a response. -/
theorem accepted_of_kindOf (h : ∀ b ∈ l, s.cfg.kindOf b = none) : ∀ b ∈ l, s.cfg.kindOf b ≠ some .noResponse :=
  fun b hb => by rw [h b hb]; exact (Option.some_ne_none _).symm

/-- The write buffer of a quiet machine drains, its entries in order on the bus. -/
theorem drain_sent (h : s.quiet) :
    ∃ sent, s.drain = .ok () (drained s (sent.reverse ++ s.bus)) ∧ List.Forall₂ s.sent s.wbuf sent := by
  obtain ⟨bus, hdrain⟩ := drain_drained h
  obtain ⟨sent, t, hall, -, hbus, hsent⟩ :=
    sendAll_accepted (u := { s with wbuf := [] }) rfl (accepted_of_kindOf h.1)
  obtain ⟨-, rfl⟩ := Res.ok.inj (hdrain.symm.trans hall)
  have hbus : bus = sent.reverse ++ s.bus := hbus
  rw [hbus] at hdrain
  exact ⟨sent, hdrain, hsent⟩

/-! ### SYNC -/

/-- SYNC ends when the write buffer is empty (20_memory R157; the model's reading of SYNC, D15). -/
theorem completes_sync (h : s.quiet) : s.completes .sync fun t =>
    t.mem = s.settledMem ∧ t.wbuf = [] ∧ (∃ sent, t.bus = sent.reverse ++ s.bus ∧ List.Forall₂ s.sent s.wbuf sent) ∧
    t.hist = s.hist ∧ s.onlyMemory t ∧ s.Continued t := by
  obtain ⟨sent, hdrain, hsent⟩ := drain_sent h
  have hexec : exec .sync s = .next (drained s (sent.reverse ++ s.bus)).retire := by
    show execSync s = _
    rw [execSync, hdrain]
    rfl
  refine ⟨_, hexec, retire_mem _, retire_wbuf _, ⟨sent, ?bus, hsent⟩, retire_hist _, ⟨?late, ?rest⟩,
    continued_of rfl rfl rfl rfl⟩
  case bus => rw [retire_rest]; rfl
  case late => exact fun x hx => .inl (by rwa [retire_hist] at hx)
  case rest => rw [retire_rest]; rfl

/-- SYNC stops at a write that is not accepted. -/
theorem sync_notAccepted {before after : List WEntry} (hw : s.wbuf = before ++ e :: after)
    (hbefore : ∀ b ∈ before, s.cfg.kindOf b = none) (he : s.cfg.kindOf e = some .noResponse) :
    exec .sync s = .fault .writeNotAccepted := by
  have hdrain : s.drain = .stop (.fault .writeNotAccepted) := by
    rw [State.drain, hw]
    exact sendAll_noResponse before after (accepted_of_kindOf hbefore) he rfl
  show execSync s = _
  rw [execSync, hdrain]
  rfl

end

/-! ### Conditional traps -/

section
variable {s : State} {i : Instr}

/-- A trap instruction whose condition is `p` (44_traps_special R479). -/
theorem trapIf_of_iff {c : Bool} {p : Prop} (hc : c = true ↔ p) (h : exec i s = s.trapIf c) :
    (p → s.traps i .trap) ∧ (¬ p → s.completes i (s.Wrote · 0 0)) := by
  refine ⟨fun hp => h.trans (if_pos (hc.mpr hp)), fun hp => ?_⟩
  obtain ⟨t, ht, hw⟩ := done_wrote s
  exact ⟨t, h.trans ((if_neg (mt hc.mp hp)).trans ht), hw⟩

theorem not_slt_iff (v w : DWord) : (!v.slt w) = true ↔ v.toInt ≥ w.toInt := by
  rw [Bool.not_eq_true', ← Bool.not_eq_true, BitVec.slt_iff_toInt_lt, Int.not_lt]

theorem not_ult_iff (v w : DWord) : (!v.ult w) = true ↔ v.toNat ≥ w.toNat := by
  rw [Bool.not_eq_true', ← Bool.not_eq_true, BitVec.ult_iff_toNat_lt, Nat.not_lt]

theorem beq_iff_toNat (v w : DWord) : (v == w) = true ↔ v.toNat = w.toNat := by
  rw [beq_iff_eq, BitVec.toNat_inj]

theorem bne_iff_toNat (v w : DWord) : (v != w) = true ↔ v.toNat ≠ w.toNat := by
  rw [bne_iff_ne, Ne, Ne, BitVec.toNat_inj]

end

/-! ### The statement -/

/-- Settles O24: SYNC drains the write buffer or stops at a write that is not accepted; a conditional trap takes its
exception by a comparison of integers, an immediate standing for the same integer on 64 bits. -/
theorem trapsAndSync : Obligations.TrapsAndSync := by
  intro s rs rt imm code code20
  dsimp only
  refine ⟨completes_sync, fun before e after hw hbefore he => sync_notAccepted hw hbefore he, rfl, rfl, ?traps⟩
  case traps =>
    have himm : (sext64 imm).toInt = imm.toInt := toInt_sext64 (by decide) imm
    intro e he
    simp only [List.mem_cons, List.not_mem_nil, or_false] at he
    rcases he with rfl | rfl | rfl | rfl | rfl | rfl | rfl | rfl | rfl | rfl | rfl | rfl
    · exact trapIf_of_iff (not_slt_iff _ _) rfl
    · exact trapIf_of_iff (not_ult_iff _ _) rfl
    · exact trapIf_of_iff BitVec.slt_iff_toInt_lt rfl
    · exact trapIf_of_iff BitVec.ult_iff_toNat_lt rfl
    · exact trapIf_of_iff (beq_iff_toNat _ _) rfl
    · exact trapIf_of_iff (bne_iff_toNat _ _) rfl
    · exact trapIf_of_iff (himm ▸ not_slt_iff _ _) rfl
    · exact trapIf_of_iff (not_ult_iff _ _) rfl
    · exact trapIf_of_iff (himm ▸ BitVec.slt_iff_toInt_lt) rfl
    · exact trapIf_of_iff BitVec.ult_iff_toNat_lt rfl
    · exact trapIf_of_iff (himm ▸ beq_iff_toInt _ _) rfl
    · exact trapIf_of_iff (himm ▸ bne_iff_toInt _ _) rfl

end Sys2Proof.Proofs

/-! ## Proofs: what is read with no late write outstanding (O34), and the timer (O57) -/

namespace Sys2Proof.Proofs
open Sys2Proof.Machine

section
variable {s : State}

/-! ### Views with no late write outstanding -/

section
variable (h : s.hist = [])
include h

theorem readFgr_calm (n : Reg) : s.readFgr n = s.fgr[n.toNat]'(n.isLt) := by
  simp [State.readFgr, h]

theorem frSeen_calm : s.frSeen = s.cp0.status.getLsbD 26 := by
  rw [State.frSeen, statusSeen_calm h, stFR]

theorem fpr32_calm (r : Reg) : s.fpr32 r = s.fprWord (s.cp0.status.getLsbD 26) r := by
  rw [State.fpr32, readFgr_calm h, frSeen_calm h, State.fprWord]

theorem fpr64_calm (r : Reg) : s.fpr64 r = s.fprDword (s.cp0.status.getLsbD 26) r := by
  rw [State.fpr64, readFgr_calm h, frSeen_calm h, State.fprDword]

theorem fcrSeen_calm : s.fcrSeen = s.fcr31 := by simp [State.fcrSeen, h]

theorem condSeen_calm : s.condSeen = s.fcr31.getLsbD 23 := by simp [State.condSeen, fcrC, h]

theorem timerSeen_calm (who : Reader) : s.timerSeen who = s.timerInt := by simp [State.timerSeen, h]

theorem copUsable_calm_zero :
    s.copUsable 0 = true ↔ s.cp0.status.getLsbD 28 = true ∨ modeOf s.cp0.status = some .kernel := by
  simp [State.copUsable, statusSeen_calm h, stCU, or_comm]

theorem copUsable_calm {z : Nat} (hz : z ≠ 0) : s.copUsable z = s.cp0.status.getLsbD (28 + z) := by
  rw [State.copUsable, if_neg hz, statusSeen_calm h, stCU]

end

/-- Settles O34: every view is a fold over the late writes, so without any it is the register held. -/
theorem readsWithoutHazard : Obligations.ReadsWithoutHazard := by
  intro s r who h
  exact ⟨readGpr_calm h r, cp0Read_calm h r, statusSeen_calm h who, frSeen_calm h, fpr32_calm h r, fpr64_calm h r,
    fcrSeen_calm h, condSeen_calm h, copUsable_calm_zero h, copUsable_calm h (by decide), copUsable_calm h (by decide)⟩

/-! ### The timer (60_exceptions R740) -/

theorem toNat_add_one_add (v : Word) (j : Nat) : ((v + 1).toNat + j) % 2 ^ 32 = (v.toNat + 1 + j) % 2 ^ 32 := by
  rw [BitVec.toNat_add, Nat.mod_add_mod]
  rfl

theorem countTicks_count (k : Nat) (s : State) :
    (s.countTicks k).cp0.count.toNat = (s.cp0.count.toNat + k) % 2 ^ 32 := by
  induction k generalizing s with
  | zero => exact (Nat.mod_eq_of_lt s.cp0.count.isLt).symm
  | succ k ih =>
    rw [State.countTicks, ih]
    show ((s.cp0.count + 1).toNat + k) % 2 ^ 32 = _
    rw [toNat_add_one_add, Nat.add_right_comm, Nat.add_assoc]

/-- The latch remembers every tick that met Compare. -/
theorem countTicks_timerInt (k : Nat) (s : State) : (s.countTicks k).timerInt = true ↔ s.timerInt = true ∨
    ∃ j, 1 ≤ j ∧ j ≤ k ∧ (s.cp0.count.toNat + j) % 2 ^ 32 = s.cp0.compare.toNat := by
  induction k generalizing s with
  | zero =>
    refine ⟨.inl, fun h => h.elim id fun ⟨j, hpos, hle, _⟩ => ?_⟩
    omega
  | succ k ih =>
    have hmet : (s.cp0.count + 1 == s.cp0.compare) = true ↔
        (s.cp0.count.toNat + 1) % 2 ^ 32 = s.cp0.compare.toNat := by
      rw [beq_iff_eq, ← BitVec.toNat_inj, BitVec.toNat_add]
      rfl
    have hnext : ∀ j, ((s.cp0.count + 1).toNat + j) % 2 ^ 32 = (s.cp0.count.toNat + (j + 1)) % 2 ^ 32 := fun j => by
      rw [toNat_add_one_add, Nat.add_right_comm, Nat.add_assoc]
    rw [State.countTicks, ih]
    show (s.timerInt || s.cp0.count + 1 == s.cp0.compare) = true ∨ (∃ j, 1 ≤ j ∧ j ≤ k ∧
      ((s.cp0.count + 1).toNat + j) % 2 ^ 32 = s.cp0.compare.toNat) ↔ _
    rw [Bool.or_eq_true, hmet, or_assoc]
    simp only [hnext]
    refine or_congr_right ⟨?_, ?_⟩
    · rintro (hfirst | ⟨j, hpos, hle, hj⟩)
      · exact ⟨1, by omega, by omega, hfirst⟩
      · exact ⟨j + 1, by omega, by omega, hj⟩
    · rintro ⟨j, hpos, hle, hj⟩
      obtain rfl | hlt := Nat.eq_or_lt_of_le hpos
      · exact .inl hj
      · exact .inr ⟨j - 1, by omega, by omega, by rwa [Nat.sub_add_cancel hpos]⟩

/-- Settles O57: the end of a step is the ticks that came due, one after the other. -/
theorem timerTicks : Obligations.TimerTicks := by
  intro s
  exact ⟨countTicks_count _ s, countTicks_timerInt _ s, tick_rest s⟩

end

end Sys2Proof.Proofs

/-! ## Proofs: rounding an integer significand (O49) -/

namespace Sys2Proof.Proofs
open Sys2Proof.Machine

section
variable (rm : BitVec 2) (sign : Bool) (m shift : Nat) (sticky : Bool)

/-- Whether rounding goes up from the quotient (47_fpu_state_formats R571). -/
def roundsUp : Bool :=
  if rm = 0 then
    decide (2 ^ shift < 2 * (m % 2 ^ shift)) ||
      (decide (2 ^ shift = 2 * (m % 2 ^ shift)) && (sticky || m / 2 ^ shift % 2 == 1))
  else if rm = 1 then false
  else if rm = 2 then (m % 2 ^ shift != 0 || sticky) && !sign
  else (m % 2 ^ shift != 0 || sticky) && sign

theorem roundShift_eq : roundShift rm sign m shift sticky =
    (m / 2 ^ shift + (roundsUp rm sign m shift sticky).toNat, m % 2 ^ shift != 0 || sticky) := by
  show (if roundsUp rm sign m shift sticky then m / 2 ^ shift + 1 else m / 2 ^ shift, _) = _
  cases roundsUp rm sign m shift sticky <;> rfl

/-- A significand without lost bits is its quotient. -/
theorem roundsUp_exact {m shift : Nat} (h : m % 2 ^ shift = 0) : roundsUp rm sign m shift false = false := by
  have hpos : 0 < 2 ^ shift := Nat.two_pow_pos shift
  simp [roundsUp, h]

theorem roundShift_exact {m shift : Nat} (h : m % 2 ^ shift = 0) :
    roundShift rm sign m shift false = (m / 2 ^ shift, false) := by
  rw [roundShift_eq, roundsUp_exact _ _ h, h]
  rfl

/-- The modes that round the magnitude toward zero, and those that round it away from zero, for a sign. -/
theorem rm_cases : rm = 0 ∨ (rm = 1 ∨ rm = 2 ∧ sign = true ∨ rm = 3 ∧ sign = false) ∨
    (rm = 2 ∧ sign = false ∨ rm = 3 ∧ sign = true) := by
  revert rm sign
  decide

theorem roundsUp_toward (h : rm = 1 ∨ rm = 2 ∧ sign = true ∨ rm = 3 ∧ sign = false) :
    roundsUp rm sign m shift sticky = false := by
  obtain rfl | ⟨rfl, rfl⟩ | ⟨rfl, rfl⟩ := h <;> simp [roundsUp]

theorem roundsUp_away (h : rm = 2 ∧ sign = false ∨ rm = 3 ∧ sign = true) :
    roundsUp rm sign m shift sticky = (m % 2 ^ shift != 0 || sticky) := by
  obtain ⟨rfl, rfl⟩ | ⟨rfl, rfl⟩ := h <;> simp [roundsUp]

theorem roundsUp_nearest : roundsUp 0 sign m shift sticky = true ↔
    2 ^ shift < 2 * (m % 2 ^ shift) ∨ 2 ^ shift = 2 * (m % 2 ^ shift) ∧ (sticky = true ∨ m / 2 ^ shift % 2 = 1) := by
  simp [roundsUp]

end

/-- Settles O49: the quotient and the lost bits give back the significand, and the mode decides by the lost bits whether
the quotient goes up. -/
theorem fpRounding : Obligations.FpRounding := by
  intro rm sign m shift
  dsimp only
  rw [roundShift_eq]
  dsimp only
  have hu : 0 < 2 ^ shift := Nat.two_pow_pos shift
  have hlost : m % 2 ^ shift < 2 ^ shift := Nat.mod_lt _ hu
  have hm : m / 2 ^ shift * 2 ^ shift + m % 2 ^ shift = m := Nat.div_add_mod' _ _
  simp only [Nat.add_mul]
  refine ⟨by simp, fun h => ?nearest, fun h => ?toward, fun h => ?away⟩
  case nearest =>
    subst h
    have hup := roundsUp_nearest sign m shift false
    cases hc : roundsUp 0 sign m shift false
    · rw [hc] at hup
      simp only [Bool.false_eq_true, false_iff, not_or, not_and, false_or] at hup
      simp only [Bool.toNat_false, Nat.zero_mul]
      omega
    · rw [hc] at hup
      simp only [Bool.false_eq_true, true_iff, false_or] at hup
      simp only [Bool.toNat_true, Nat.one_mul]
      omega
  case toward =>
    rw [roundsUp_toward rm sign m shift false h]
    simp only [Bool.toNat_false, Nat.zero_mul, Nat.one_mul]
    omega
  case away =>
    rw [roundsUp_away rm sign m shift false h]
    by_cases hz : m % 2 ^ shift = 0
    · simp only [hz, bne_self_eq_false, Bool.or_false, Bool.toNat_false, Nat.zero_mul]
      omega
    · rw [bne_iff_ne.mpr hz]
      simp only [Bool.true_or, Bool.toNat_true, Nat.one_mul]
      omega

end Sys2Proof.Proofs

/-! ## Proofs: coprocessors: unusable units, disabled 64-bit operations, coprocessors 0 and 2 (O41, O40) -/

namespace Sys2Proof.Proofs
open Sys2Proof.Machine

section
variable {s : State} {i j : Instr} {z : Nat} {k : Result}

/-! ### Instructions that end in the tests before them -/

/-- Whatever stands behind the usability test (46_coprocessor R529). -/
theorem traps_unusable (hz : s.copUsable z = false) (h : exec i s = s.needsCop z k) :
    s.traps i (.coprocessorUnusable (BitVec.ofNat 2 z)) := h.trans (needsCop_unusable hz k)

/-- Whatever stands behind the test for 64-bit operations (30_encoding R291). -/
theorem traps_disabled (h64 : s.ops64Enabled = false) (h : exec i s = s.needs64 k) :
    s.traps i .reservedInstruction := h.trans (needs64_disabled h64 k)

theorem traps_cop_disabled (hz : s.copUsable z = true) (h64 : s.ops64Enabled = false)
    (h : exec i s = s.needsCop z (s.needs64 k)) : s.traps i .reservedInstruction :=
  traps_disabled h64 (h.trans (needsCop_usable hz _))

end

/-- Settles O41: every form of a coprocessor begins with the usability test, and every 64-bit operation with the test
for such operations, or with that one behind the usability test. -/
theorem instructionsDisabled : Obligations.InstructionsDisabled := by
  intro s rs rt rd base ft fs fd op fmt sa cond o cofun
  refine ⟨fun h0 => ?cop0, fun h1 => ?cop1, fun h2 => ?cop2,
    fun h64 => ⟨?cpu, fun h0 => ?moves0, fun h1 => ?forms1, fun h2 => ?moves2⟩⟩
  all_goals simp only [List.forall_mem_cons, List.not_mem_nil, false_implies, implies_true, and_true]
  case cop0 => and_intros <;> exact traps_unusable h0 rfl
  case cop1 => and_intros <;> exact traps_unusable h1 rfl
  case cop2 => and_intros <;> exact traps_unusable h2 rfl
  case cpu => and_intros <;> exact traps_disabled h64 rfl
  case moves0 => and_intros <;> exact traps_cop_disabled h0 h64 rfl
  case forms1 => and_intros <;> exact traps_cop_disabled h1 h64 rfl
  case moves2 => and_intros <;> exact traps_cop_disabled h2 h64 rfl

/-! ### Uncached references of any instruction -/

section
variable {s : State} {va : DWord} {pa : PAddr} {n : Nat}

/-- An aligned uncached load of an instruction: the buffered writes leave, and the datum is the number in memory. -/
theorem loadDatum_uncached (hn : n ∈ dataSizes) (h : s.uncached .load va n pa) :
    ∃ d bus, s.loadDatum va n = .ok d (drained s bus) ∧ d.toNat % 256 ^ n = s.memNumber pa n := by
  obtain ⟨hva, hmaps, hplain⟩ := h
  have hoff := mod_page_of_maps hmaps
  obtain ⟨hx, -⟩ := hmaps
  obtain ⟨bus, hread⟩ := readDatum_uncached hplain va
  refine ⟨_, bus, ?_, toNat_memDatum hn hva hoff⟩
  simp only [State.loadDatum, State.reference, aligned_of_mod hva, xlate_of_translate hx, Res.bind]
  exact hread

/-- An aligned uncached store of an instruction: the value enters the write buffer. -/
theorem storeDatum_uncached (hn : n ∈ dataSizes) (hwf : s.memoryWf) (h : s.uncached .store va n pa) (v : DWord) :
    ∃ t, s.storeDatum va n v = .ok () t ∧ s.Stored t.retire n (s.byteAddr pa) (storedByte s.bigEndianCPU v n) := by
  obtain ⟨hva, hmaps, hplain⟩ := h
  have hoff := mod_page_of_maps hmaps
  obtain ⟨hx, -⟩ := hmaps
  obtain ⟨hmem, -⟩ := hwf
  obtain ⟨t, ht, hstored⟩ := pushWrite_stored hmem hn hva hoff hplain v
  refine ⟨t, ?_, hstored⟩
  simp only [State.storeDatum, State.reference, aligned_of_mod hva, xlate_of_translate hx, Res.bind]
  rw [State.writeDatum, memWrite_buffered (.inl rfl), ht]

/-- A store of an instruction that does nothing else. -/
theorem completes_storeDatum {i : Instr} {v : DWord} (hn : n ∈ dataSizes) (hwf : s.memoryWf)
    (h : s.uncached .store va n pa) (hi : exec i s = (s.storeDatum va n v).finish fun _ s1 => s1.done) :
    s.completes i fun t => s.Stored t n (s.byteAddr pa) (storedByte s.bigEndianCPU v n) := by
  obtain ⟨t, ht, hstored⟩ := storeDatum_uncached hn hwf h v
  exact ⟨t.retire, by rw [hi, ht]; rfl, hstored⟩

end

/-! ### Conditions without a source and the missing coprocessor 2 (46_coprocessor R547, R548) -/

section
variable {s : State} {i j : Instr} {va : DWord} {pa : PAddr} {n : Nat}

/-- A branch that links nothing links no value. -/
theorem branchLinked_unlinked {t : State} {v : DWord} (h : s.BranchLinked t 0 v) (w : DWord) :
    s.BranchLinked t 0 w := by
  obtain ⟨hresult, hframe, hlate, hrandom⟩ := h
  exact ⟨hresult, hframe, hlate, hrandom⟩

/-- An ordinary branch and its likely form whose condition is open. -/
theorem completes_branch_open {taken : Bool} {offset : BitVec 16} (hp : s.pending = none)
    (hi : exec i s = s.branch taken false offset 0) (hj : exec j s = s.branch taken true offset 0) :
    let dest := BitVec.ofInt 64 (s.pc.toInt + 4 + 4 * offset.toInt)
    s.completes i (fun t => s.BranchLinked t 0 0 ∧ (s.slotThen t dest 0 ∨ s.slotThen t (s.pc + 8) 0)) ∧
    s.completes j fun t => s.BranchLinked t 0 0 ∧ (s.slotThen t dest 0 ∨ t.pc = s.pc + 8 ∧ t.pending = none) := by
  obtain ⟨htaken, huntaken⟩ := completes_branch hp Iff.rfl hi hj
  by_cases h : taken = true
  · obtain ⟨⟨t, ht, hlinked, hslot⟩, u, hu, hlinked', hslot'⟩ := htaken h
    exact ⟨⟨t, ht, branchLinked_unlinked hlinked 0, .inl hslot⟩,
      u, hu, branchLinked_unlinked hlinked' 0, .inl hslot'⟩
  · obtain ⟨⟨t, ht, hlinked, hslot⟩, u, hu, hlinked', hpast⟩ := huntaken h
    exact ⟨⟨t, ht, branchLinked_unlinked hlinked 0, .inr hslot⟩,
      u, hu, branchLinked_unlinked hlinked' 0, .inr hpast⟩

theorem completes_done (h : exec i s = s.done) : s.completes i (s.Wrote · 0 0) := by
  obtain ⟨t, ht, hw⟩ := done_wrote s
  exact ⟨t, h.trans ht, hw⟩

/-- A word from the missing unit: open, but sign-extended. -/
theorem completes_openWord {rt : Reg} {w : DWord} (h : exec i s = (s.writeGprLate rt (sext64 (low32 w))).done) :
    s.completes i fun t => ∃ v : DWord, s.WroteLate t rt v ∧ fits 32 v.toInt := by
  obtain ⟨t, ht, hw⟩ := completes_writeGprLate h
  exact ⟨t, ht, _, hw, fits_sext64 _⟩

/-- A load whose datum nothing takes. -/
theorem completes_discarded (hn : n ∈ dataSizes) (h : s.uncached .load va n pa)
    (hi : exec i s = (s.loadDatum va n).finish fun _ s1 => s1.done) : s.completes i (s.LoadedFromBus · 0 0) := by
  obtain ⟨d, bus, hd, -⟩ := loadDatum_uncached hn h
  obtain ⟨t, ht, hloaded, -⟩ := setGpr_loaded s bus 0 0
  exact ⟨t, by rw [hi, hd]; exact ht, hloaded⟩

end

/-- Settles O40: where the unit is usable, CFC0 and CTC0 trap, a branch without a condition goes one of its two ways,
and an operation of the missing coprocessor 2 is the CPU's half of it. -/
theorem coprocessorForms : Obligations.CoprocessorForms := by
  intro s rt rd base offset cofun pa
  dsimp only
  rw [address_eq_ea]
  refine ⟨fun h0 => ⟨needsCop_usable h0 _, needsCop_usable h0 _⟩, fun hp => ?branches,
    fun h2 => ⟨?lost, ?words, fun h64 => ⟨?lost64, ?word64⟩, ?loads, ?stores⟩⟩
  case branches =>
    simp only [List.forall_mem_cons, List.not_mem_nil, false_implies, implies_true, and_true]
    and_intros <;> exact fun hc => completes_branch_open hp (needsCop_usable hc _) (needsCop_usable hc _)
  case lost =>
    simp only [List.forall_mem_cons, List.not_mem_nil, false_implies, implies_true, and_true]
    and_intros <;> exact completes_done (needsCop_usable h2 _)
  case words =>
    simp only [List.forall_mem_cons, List.not_mem_nil, false_implies, implies_true, and_true]
    and_intros <;> exact completes_openWord (needsCop_usable h2 _)
  case lost64 => exact completes_done ((needsCop_usable h2 _).trans (needs64_enabled h64 _))
  case word64 =>
    obtain ⟨t, ht, hw⟩ := completes_writeGprLate
      (i := .dmfc2 rt rd) ((needsCop_usable h2 _).trans (needs64_enabled h64 _))
    exact ⟨t, ht, _, hw⟩
  case loads =>
    simp only [List.forall_mem_cons, List.not_mem_nil, false_implies, implies_true, and_true]
    exact ⟨fun h => completes_discarded (by decide) h (needsCop_usable h2 _),
      fun h => completes_discarded (by decide) h (needsCop_usable h2 _)⟩
  case stores =>
    have stored : ∀ {n : Nat} {i : Instr}, n ∈ dataSizes → s.memoryWf → s.uncached .store (s.ea base offset) n pa →
        exec i s = (s.storeDatum (s.ea base offset) n (s.freeWord .cop2Value)).finish (fun _ s1 => s1.done) →
        s.completes i fun t => ∃ v, s.Stored t n (s.byteAddr pa) (storedByte s.bigEndianCPU v n) :=
      fun hn hwf h hi => by
        obtain ⟨t, ht, hstored⟩ := completes_storeDatum hn hwf h hi
        exact ⟨t, ht, _, hstored⟩
    simp only [List.forall_mem_cons, List.not_mem_nil, false_implies, implies_true, and_true]
    exact ⟨fun hwf h => stored (by decide) hwf h (needsCop_usable h2 _),
      fun hwf h => stored (by decide) hwf h (needsCop_usable h2 _)⟩

end Sys2Proof.Proofs

/-! ## Proofs: ERET, WAIT and the TLB instructions (45_cp0_system R508 to R516; O39, O37, O38) -/

namespace Sys2Proof.Proofs
open Sys2Proof.Machine

section
variable {s : State}

/-! ### ERET and WAIT -/

/-- What ERET changes of the state before Random steps (45_cp0_system R514). -/
theorem eret_rest (s : State) : s.eret = { s with
    pc := s.eret.pc, llbit := false, pending := none, hist := s.eret.hist
    cp0 := { s.cp0 with status := s.eret.cp0.status } } := by
  unfold State.eret
  dsimp only
  split <;> rfl

theorem eret_calm (h : s.hist = []) :
    s.eret.pc = (if s.cp0.status.getLsbD 2 then s.cp0.errorEpc else s.cp0.epc) ∧
    s.eret.cp0.status = s.cp0.status &&& ~~~ (if s.cp0.status.getLsbD 2 then 4#32 else 2#32) ∧ s.eret.hist = [] := by
  unfold State.eret
  dsimp only
  simp only [statusSeen_calm h, cp0Seen_calm h, stERL]
  split <;> simp [h]

/-- Clearing one bit of a word. -/
theorem getLsbD_cleared (v : Word) (i b : Nat) (hb : b < 32) :
    (v &&& ~~~ BitVec.twoPow 32 i).getLsbD b = (v.getLsbD b && decide (b ≠ i)) := by
  simp [hb, eq_comm]

/-- ERET ends in `State.eret`, with Random stepped; in a delay slot the program counter and the link of the branch are
open as well (43_jumps_branches R464 item 1). -/
theorem exec_eret (h0 : s.copUsable 0 = true) : ∃ t, exec .eret s = .next t ∧
    (s.pending = none → t = s.eret.stepRandom) ∧
    t = { s.eret.stepRandom with gpr := t.gpr, pc := t.pc } := by
  refine ⟨_, needsCop_usable h0 _, fun hp => by rw [hp], ?_⟩
  split
  · rw [writeGpr_rest]
  · rfl

/-- Settles O39: ERET is `State.eret`, whose registers are those held when no late write is outstanding; WAIT only
records whether the write buffer is empty. -/
theorem eretAndWait : Obligations.EretAndWait := by
  intro s h0
  obtain ⟨t, ht, hout, hrest⟩ := exec_eret h0
  refine ⟨fun hh hp => ⟨t, ht, ?outside⟩, ⟨t, ht, ?anywhere⟩, ?wait⟩
  case outside =>
    obtain ⟨hpc, hstatus, hhist⟩ := eret_calm hh
    have heret := hout hp
    rw [eret_rest, hhist, ← hh, ← hp] at heret
    subst heret
    refine ⟨hpc, fun b hb => ?_, rfl, stepRandom_steps _ _ rfl, rfl⟩
    show s.eret.cp0.status.getLsbD b = _
    rw [hstatus]
    split
    · exact getLsbD_cleared _ 2 b hb
    · exact getLsbD_cleared _ 1 b hb
  case anywhere =>
    rw [eret_rest] at hrest
    exact ⟨by rw [hrest]; rfl, by rw [hrest]; rfl, by rw [hrest]; rfl⟩
  case wait =>
    refine ⟨_, needsCop_usable h0 _, ?_, ?_, ?_⟩
    · rw [retire_rest]
    · exact continued_of rfl rfl rfl rfl
    · rw [retire_rest]

/-! ### Fields of TLB entries and of the registers they come from (21_mmu_tlb R201) -/

theorem toNat_extract {n : Nat} (v : BitVec n) (i m : Nat) : (v.extractLsb' i m).toNat = v.toNat / 2 ^ i % 2 ^ m := by
  rw [BitVec.extractLsb'_toNat, Nat.shiftRight_eq_div_pow]

theorem toNat_concat {m n : Nat} (a : BitVec m) (b : BitVec n) : (a ++ b).toNat = a.toNat * 2 ^ n + b.toNat := by
  rw [BitVec.toNat_append, ← Nat.shiftLeft_add_eq_or_of_lt b.isLt, Nat.shiftLeft_eq]

theorem toNat_bit (b : Bool) : (bit b).toNat = b.toNat := by cases b <;> rfl

theorem halfOfLo_fields (lo : DWord) : (halfOfLo lo).pfn.toNat = lo.toNat / 64 % 2 ^ 24 ∧
    (halfOfLo lo).c.toNat = lo.toNat / 8 % 8 ∧ (halfOfLo lo).d = lo.getLsbD 2 ∧ (halfOfLo lo).v = lo.getLsbD 1 :=
  ⟨toNat_extract lo 6 24, toNat_extract lo 3 3, rfl, rfl⟩

theorem toNat_loOfHalf (h : TlbHalf) (g : Bool) :
    (loOfHalf h g).toNat = h.pfn.toNat * 64 + h.c.toNat * 8 + h.d.toNat * 4 + h.v.toNat * 2 + g.toNat := by
  rw [loOfHalf, toNat_zext64 (by decide), toNat_concat, toNat_concat, toNat_concat, toNat_concat]
  simp only [toNat_bit]
  omega

theorem tlbEntryOf_mask (pm hi lo0 lo1 : DWord) :
    (tlbEntryOf (low32 pm) hi lo0 lo1).mask.toNat = pm.toNat / 2 ^ 13 % 2 ^ 12 := by
  show ((low32 pm).extractLsb' 13 12).toNat = _
  rw [toNat_extract, low32, BitVec.toNat_setWidth]
  omega

theorem tlbEntryOf_vpn2 (pm hi lo0 lo1 : DWord) {b : Nat} (hb : b < 27) :
    (tlbEntryOf (low32 pm) hi lo0 lo1).vpn2.getLsbD b =
      (hi.getLsbD (13 + b) && !(decide (b < 12) && pm.getLsbD (13 + b))) := by
  have h32 : b < 12 → 13 + b < 32 := by omega
  by_cases h12 : b < 12 <;> simp [tlbEntryOf, low32, hb, h12, h32]

theorem tlbEntryOf_region (pm : Word) (hi lo0 lo1 : DWord) :
    (tlbEntryOf pm hi lo0 lo1).r.toNat = hi.toNat / 2 ^ 62 := by
  have hlt : hi.toNat < 2 ^ 64 := hi.isLt
  exact (toNat_extract hi 62 2).trans (Nat.mod_eq_of_lt (by omega))

theorem tlbEntryOf_asid (pm : Word) (hi lo0 lo1 : DWord) :
    (tlbEntryOf pm hi lo0 lo1).asid.toNat = hi.toNat % 256 := BitVec.toNat_setWidth ..

theorem toNat_pageMaskOf (e : TlbEntry) : (pageMaskOf e).toNat = e.mask.toNat * 2 ^ 13 := by
  have hlt : e.mask.toNat < 2 ^ 12 := e.mask.isLt
  rw [pageMaskOf, BitVec.toNat_shiftLeft, BitVec.toNat_setWidth, Nat.shiftLeft_eq]
  omega

/-- A field of a register at bit `i`. -/
theorem getLsbD_field {m : Nat} (v : BitVec m) {i : Nat} (hm : i + m ≤ 64) (k : Nat) :
    (zext64 v <<< i).getLsbD k = (decide (i ≤ k) && v.getLsbD (k - i)) := by
  rw [BitVec.getLsbD_shiftLeft, zext64, BitVec.getLsbD_setWidth]
  by_cases hk : k < i + m
  · by_cases hik : i ≤ k
    · simp [hik, show k < 64 by omega, show k - i < 64 by omega]
    · simp [hik]
  · simp [BitVec.getLsbD_of_ge v (k - i) (by omega)]

/-- EntryHi as TLBR reads it: ASID from bit 0 up, VPN2 from bit 13, R from bit 62. -/
theorem getLsbD_entryHiOf (e : TlbEntry) (k : Nat) : (entryHiOf e).getLsbD k =
    (decide (62 ≤ k) && e.r.getLsbD (k - 62) ||
      decide (13 ≤ k) && (e.vpn2.getLsbD (k - 13) && !e.mask.getLsbD (k - 13)) || e.asid.getLsbD k) := by
  have hvpn : ∀ j, (e.vpn2 &&& ~~~ e.mask.setWidth 27).getLsbD j = (e.vpn2.getLsbD j && !e.mask.getLsbD j) :=
      fun j => by
    by_cases hj : j < 27
    · simp [hj]
    · simp [BitVec.getLsbD_of_ge e.vpn2 j (by omega)]
  have hasid : (zext64 e.asid).getLsbD k = e.asid.getLsbD k := by
    simpa using getLsbD_field e.asid (i := 0) (by decide) k
  rw [entryHiOf, BitVec.getLsbD_or, BitVec.getLsbD_or, getLsbD_field _ (by decide), getLsbD_field _ (by decide), hvpn,
    hasid]

theorem entryHiOf_region (e : TlbEntry) : (entryHiOf e).toNat / 2 ^ 62 = e.r.toNat := by
  have hlt : (entryHiOf e).toNat < 2 ^ 64 := (entryHiOf e).isLt
  have hfield : (entryHiOf e).extractLsb' 62 2 = e.r := by
    refine BitVec.eq_of_getLsbD_eq fun j hj => ?_
    rw [BitVec.getLsbD_extractLsb', getLsbD_entryHiOf, BitVec.getLsbD_of_ge e.vpn2 _ (by omega),
      BitVec.getLsbD_of_ge e.asid _ (by omega)]
    simp [hj]
  rw [← hfield, toNat_extract]
  omega

theorem entryHiOf_low (e : TlbEntry) : (entryHiOf e).toNat % 2 ^ 13 = e.asid.toNat := by
  have hfield : (entryHiOf e).extractLsb' 0 13 = e.asid.setWidth 13 := by
    refine BitVec.eq_of_getLsbD_eq fun j hj => ?_
    rw [BitVec.getLsbD_extractLsb', getLsbD_entryHiOf, BitVec.getLsbD_setWidth]
    simp [hj, show ¬ 62 ≤ j by omega, show ¬ 13 ≤ j by omega]
  have hwide : (e.asid.setWidth 13).toNat = e.asid.toNat := BitVec.toNat_setWidth_of_le (by decide)
  rw [← hwide, ← hfield, toNat_extract, Nat.pow_zero, Nat.div_one]

theorem entryHiOf_fill (e : TlbEntry) : (entryHiOf e).toNat / 2 ^ 40 % 2 ^ 22 = 0 := by
  have hfield : (entryHiOf e).extractLsb' 40 22 = 0 := by
    refine BitVec.eq_of_getLsbD_eq fun j hj => ?_
    rw [BitVec.getLsbD_extractLsb', getLsbD_entryHiOf, BitVec.getLsbD_of_ge e.vpn2 _ (by omega),
      BitVec.getLsbD_of_ge e.asid _ (by omega)]
    simp [show ¬ 62 ≤ 40 + j by omega]
  rw [← toNat_extract, hfield]
  rfl

theorem entryHiOf_vpn2 (e : TlbEntry) {b : Nat} (hb : b < 27) :
    (entryHiOf e).getLsbD (13 + b) = (e.vpn2.getLsbD b && !e.mask.getLsbD b) := by
  rw [getLsbD_entryHiOf, BitVec.getLsbD_of_ge e.asid _ (by omega)]
  simp [show ¬ 62 ≤ 13 + b by omega]

/-! ### The TLB instructions -/

/-- Only register 0 reads Index. -/
theorem cp0Get_withIndex (s : State) {q : Reg} (hq : q ≠ 0) (v : Word) :
    State.cp0Get { s with cp0 := { s.cp0 with index := v } } q = s.cp0Get q := by
  unfold State.cp0Get
  split
  case h_1 h => exact absurd (BitVec.eq_of_toNat_eq h) hq
  all_goals rfl

/-- Only registers 2, 3, 5 and 10 read the four of a TLB entry. -/
theorem cp0Get_withEntry (s : State) {q : Reg} (hq : q ∉ [2, 3, 5, 10]) (pm : Word) (hi lo0 lo1 : DWord) :
    State.cp0Get { s with
      cp0 := { s.cp0 with pageMask := pm, entryHi := hi, entryLo0 := lo0, entryLo1 := lo1 } } q = s.cp0Get q := by
  have hne : ∀ r ∈ ([2, 3, 5, 10] : List Reg), q.toNat ≠ r.toNat := fun r hr h => hq (BitVec.eq_of_toNat_eq h ▸ hr)
  unfold State.cp0Get
  split
  case h_3 h => exact absurd h (hne 2 (by decide))
  case h_4 h => exact absurd h (hne 3 (by decide))
  case h_6 h => exact absurd h (hne 5 (by decide))
  case h_10 h => exact absurd h (hne 10 (by decide))
  all_goals rfl

/-- What every TLB instruction leaves unchanged, and where control goes. -/
def OnlyTlb (s t : State) : Prop := s.OnlySystem t ∧ s.Continued t ∧ t.timerInt = s.timerInt

theorem onlyTlb_retire {u : State} (h : u = { s with
    cp0 := { u.cp0 with random := s.cp0.random, wired := s.cp0.wired }, tlb := u.tlb, hist := u.hist }) :
    OnlyTlb s u.retire := by
  refine ⟨⟨fun a => ?_, ?_⟩, ?_, ?_⟩
  · rw [retire_rest, h]
  · rw [retire_rest, h]
  · apply continued_of <;> rw [h]
  · rw [retire_rest, h]

/-- The fields of the entry that a TLB write stores. -/
def EntryFields (e : TlbEntry) (pm hi lo0 lo1 : DWord) : Prop :=
  e.mask.toNat = pm.toNat / 2 ^ 13 % 2 ^ 12 ∧ e.r.toNat = hi.toNat / 2 ^ 62 ∧
  (∀ b < 27, e.vpn2.getLsbD b = (hi.getLsbD (13 + b) && !(decide (b < 12) && pm.getLsbD (13 + b)))) ∧
  e.g = (lo0.getLsbD 0 && lo1.getLsbD 0) ∧ e.asid.toNat = hi.toNat % 256 ∧
  (e.lo0.pfn.toNat = lo0.toNat / 64 % 2 ^ 24 ∧ e.lo0.c.toNat = lo0.toNat / 8 % 8 ∧ e.lo0.d = lo0.getLsbD 2 ∧
    e.lo0.v = lo0.getLsbD 1) ∧
  e.lo1.pfn.toNat = lo1.toNat / 64 % 2 ^ 24 ∧ e.lo1.c.toNat = lo1.toNat / 8 % 8 ∧ e.lo1.d = lo1.getLsbD 2 ∧
    e.lo1.v = lo1.getLsbD 1

theorem tlbEntryOf_fields (pm hi lo0 lo1 : DWord) :
    EntryFields (tlbEntryOf (low32 pm) hi lo0 lo1) pm hi lo0 lo1 :=
  ⟨tlbEntryOf_mask .., tlbEntryOf_region .., fun _ hb => tlbEntryOf_vpn2 _ _ _ _ hb, rfl, tlbEntryOf_asid ..,
    halfOfLo_fields lo0, halfOfLo_fields lo1⟩

/-- A TLB write, as TLBWI and TLBWR do it: entry `i` gets the image of the registers (21_mmu_tlb R201). -/
def WroteEntry (s : State) (i : Fin 48) (t : State) : Prop :=
  OnlyTlb s t ∧ t.cp0 = { s.cp0 with random := t.cp0.random } ∧ (∀ j : Fin 48, j ≠ i → t.tlb[j] = s.tlb[j]) ∧
    EntryFields t.tlb[i] (s.cp0Read 5) (s.cp0Read 10) (s.cp0Read 2) (s.cp0Read 3)

theorem tlbWrite_only (s : State) (k : BitVec 6) : OnlyTlb s (s.tlbWrite k).retire :=
  onlyTlb_retire (by rw [tlbWrite_rest])

theorem tlbWrite_wrote {k : BitVec 6} {i : Fin 48} (hk : k.toNat = i.val) : WroteEntry s i (s.tlbWrite k).retire := by
  have hlt : k.toNat < 48 := hk ▸ i.isLt
  have htlb : (s.tlbWrite k).retire.tlb = s.tlb.set k.toNat s.tlbImage hlt := by
    rw [retire_rest]
    show (s.tlbWrite k).tlb = _
    rw [State.tlbWrite, dif_pos hlt]
    rfl
  refine ⟨tlbWrite_only s k, ?_, fun j hj => ?_, ?_⟩
  · rw [retire_rest, tlbWrite_cp0]
  · have hne : k.toNat ≠ j.val := fun h => hj (Fin.ext (h.symm.trans hk))
    rw [htlb]
    simp [hne]
  · have himage : (s.tlbWrite k).retire.tlb[i] = s.tlbImage := by
      rw [htlb]
      simp [hk]
    rw [himage]
    exact tlbEntryOf_fields ..

/-- The four registers TLBR loads from a legal Index. -/
theorem tlbRead_entry {i : Fin 48} (hi : (s.cp0Read 0).toNat % 64 = i.val) : s.tlbRead = { s with
    cp0 := { s.cp0 with
      pageMask := pageMaskOf s.tlb[i], entryHi := entryHiOf s.tlb[i]
      entryLo0 := loOfHalf s.tlb[i].lo0 s.tlb[i].g, entryLo1 := loOfHalf s.tlb[i].lo1 s.tlb[i].g } } := by
  have hk : ((s.cp0Read 0).setWidth 6).toNat = i.val := (BitVec.toNat_setWidth ..).trans hi
  have hgood : decide (47 < i.val) = false := decide_eq_false (by omega)
  have hentry : s.tlb[i.val]?.getD TlbEntry.zero = s.tlb[i] := by simp
  simp only [State.tlbRead, hk, hgood, hentry, Bool.false_eq_true, if_false]

/-- TLBR leaves the TLB and every register but the four it loads. -/
theorem tlbRead_only (s : State) (hist : List Hazard) :
    OnlyTlb s (State.retire { s.tlbRead with hist := hist }) ∧
    (State.retire { s.tlbRead with hist := hist }).tlb = s.tlb ∧
    s.keepsCp0 (State.retire { s.tlbRead with hist := hist }) [2, 3, 5, 10] :=
  ⟨onlyTlb_retire rfl, by rw [retire_rest]; rfl, fun _ hq hne _ =>
    (retire_cp0Get _ hne).trans (cp0Get_withEntry s hq _ _ _ _)⟩

end

/-- Settles O37: a write puts the image of the four registers into one entry, a read takes the registers from one; what
an Index above 47 does is open, but no more than the TLB or those registers changes. -/
theorem tlbWriteRead : Obligations.TlbWriteRead := by
  intro s h0
  dsimp only
  have index : ∀ {r : Reg} {i : Nat}, (s.cp0Read r).toNat % 64 = i → ((s.cp0Read r).setWidth 6).toNat = i :=
    fun hi => (BitVec.toNat_setWidth ..).trans hi
  refine ⟨fun i hi => ⟨_, needsCop_usable h0 _, tlbWrite_wrote (index hi)⟩,
    fun i hi => ⟨_, needsCop_usable h0 _, tlbWrite_wrote (index hi)⟩, fun i hi => ?tlbr,
    fun hi => ⟨⟨_, needsCop_usable h0 _, tlbWrite_only s _⟩, _, needsCop_usable h0 _, tlbRead_only s _⟩,
    fun hi => ⟨_, needsCop_usable h0 _, tlbWrite_only s _⟩⟩
  case tlbr =>
    obtain ⟨honly, htlb, hkeeps⟩ := tlbRead_only s _
    refine ⟨_, needsCop_usable h0 _, honly, htlb, hkeeps, ?_⟩
    rw [retire_rest]
    simp only [note_cp0, tlbRead_entry hi]
    exact ⟨toNat_pageMaskOf _, toNat_loOfHalf .., toNat_loOfHalf .., entryHiOf_region _, entryHiOf_low _,
      entryHiOf_fill _, fun b hb => entryHiOf_vpn2 _ hb⟩

/-! ### TLBP -/

/-- Entry `i` matches EntryHi (21_mmu_tlb R203). -/
def Found (s : State) (i : Fin 48) : Prop :=
  s.tlb[i].r.toNat = (s.cp0Read 10).toNat / 2 ^ 62 ∧
  (s.tlb[i].g = true ∨ s.tlb[i].asid.toNat = (s.cp0Read 10).toNat % 256) ∧
  ∀ b < 27, s.tlb[i].mask.getLsbD b = false → s.tlb[i].vpn2.getLsbD b = (s.cp0Read 10).getLsbD (13 + b)

section
variable {s : State}

/-- With legal masks TLBP finds the entries that match, in their order. -/
theorem tlbProbe_legal (hlegal : ∀ i : Fin 48, legalMask s.tlb[i].mask = true) :
    s.tlbProbe = ((List.ofFn fun i : Fin 48 => (i.val, s.tlb[i])).filter fun p =>
      p.2.hits ((s.cp0Read 10).extractLsb' 62 2) ((s.cp0Read 10).extractLsb' 13 27)
        ((s.cp0Read 10).setWidth 8)).map (·.1) := by
  have hlist : (s.tlb.toList.mapIdx fun i e => (i, e)) = List.ofFn fun i : Fin 48 => (i.val, s.tlb[i]) :=
    List.ext_getElem (by rw [List.length_mapIdx, List.length_ofFn, Vector.length_toList]) fun i _ _ => by
      rw [List.getElem_mapIdx, List.getElem_ofFn, Vector.getElem_toList]
      rfl
  unfold State.tlbProbe
  dsimp only
  rw [hlist]
  refine congrArg _ (List.filter_congr fun p hp => ?_)
  obtain ⟨i, rfl⟩ := (List.mem_ofFn' _ _).mp hp
  exact if_pos (hlegal i)

theorem tlbProbe_none (hlegal : ∀ i : Fin 48, legalMask s.tlb[i].mask = true) (hnone : ∀ i, ¬ Found s i) :
    s.tlbProbe = [] := by
  rw [tlbProbe_legal hlegal, List.map_eq_nil_iff, List.filter_eq_nil_iff]
  intro p hp
  obtain ⟨i, rfl⟩ := (List.mem_ofFn' _ _).mp hp
  exact mt (hits_iff _ _ _).mp (hnone i)

theorem tlbProbe_one (hlegal : ∀ i : Fin 48, legalMask s.tlb[i].mask = true) {i : Fin 48} (hi : Found s i)
    (hunique : ∀ j, Found s j → j = i) : s.tlbProbe = [i.val] := by
  have hone := filter_ofFn_unique (f := fun i : Fin 48 => (i.val, s.tlb[i]))
    (p := fun p => p.2.hits ((s.cp0Read 10).extractLsb' 62 2) ((s.cp0Read 10).extractLsb' 13 27)
      ((s.cp0Read 10).setWidth 8)) ((hits_iff _ _ _).mpr hi) fun j hj => hunique j ((hits_iff _ _ _).mp hj)
  rw [tlbProbe_legal hlegal, hone]
  rfl

/-- TLBP changes Index alone. -/
theorem completes_tlbp (h0 : s.copUsable 0 = true) : s.completes .tlbp fun t =>
    (s.OnlySystem t ∧ s.Continued t ∧ t.tlb = s.tlb ∧ s.keepsCp0 t [0] ∧ t.timerInt = s.timerInt) ∧
    t.cp0.index = s.probeIndex := by
  have honly : OnlyTlb s (State.retire
      (({ s with cp0 := { s.cp0 with index := s.probeIndex } }.note (.cp0 0 (s.cp0Get 0))).note .tlbp)) :=
    onlyTlb_retire rfl
  obtain ⟨hsystem, hcont, htimer⟩ := honly
  refine ⟨_, needsCop_usable h0 _, ⟨hsystem, hcont, ?_, fun q hq hne _ => ?_, htimer⟩, ?_⟩
  · rw [retire_rest]
    rfl
  · rw [retire_cp0Get _ hne]
    exact cp0Get_withIndex s (mt List.mem_singleton.mpr hq) _
  · rw [retire_rest]
    rfl

end

/-- Settles O38: Index is what the list of matching entries gives. -/
theorem tlbProbe : Obligations.TlbProbe := by
  intro s h0 hlegal
  obtain ⟨t, ht, honly, hindex⟩ := completes_tlbp h0
  refine ⟨fun hnone => ⟨t, ht, honly, ?_⟩, fun i hi hunique => ⟨t, ht, honly, ?_⟩, t, ht, honly⟩
  · rw [hindex, State.probeIndex, tlbProbe_none hlegal hnone]
  · rw [hindex, State.probeIndex, tlbProbe_one hlegal hi hunique]
    exact (BitVec.toNat_ofNat ..).trans (Nat.mod_eq_of_lt (by omega))

end Sys2Proof.Proofs

/-! ## Proofs: taking an exception (60_exceptions R690 to R704, R713, R714; O55, O56) -/

namespace Sys2Proof.Proofs
open Sys2Proof.Machine

section
variable {s : State}

/-! ### The general exception process -/

/-- The registers of an exception are the address registers. -/
theorem excRegs_rest (s : State) (x : Exc) : s.excRegs x = { s with cp0 := { s.cp0 with
    badVAddr := (s.excRegs x).cp0.badVAddr, context := (s.excRegs x).cp0.context
    xContext := (s.excRegs x).cp0.xContext, entryHi := (s.excRegs x).cp0.entryHi
    entryLo0 := (s.excRegs x).cp0.entryLo0, entryLo1 := (s.excRegs x).cp0.entryLo1 } } := by
  cases x <;> rfl

/-- Cause after an exception, from its fields (11_cp0_registers R94, R95). -/
def raisedCause (bd : Bool) (unit : BitVec 2) (old : Word) (code : BitVec 5) : Word :=
  bit bd ++ (0 : BitVec 1) ++ unit ++ (0 : BitVec 12) ++ old.extractLsb' 8 8 ++ (0 : BitVec 1) ++ code ++ (0 : BitVec 2)

theorem raise_eq (s : State) (x : Exc) : s.raise x = { s with
    cp0 := { s.cp0 with
      badVAddr := (s.excRegs x).cp0.badVAddr, context := (s.excRegs x).cp0.context
      xContext := (s.excRegs x).cp0.xContext, entryHi := (s.excRegs x).cp0.entryHi
      entryLo0 := (s.excRegs x).cp0.entryLo0, entryLo1 := (s.excRegs x).cp0.entryLo1
      cause := raisedCause s.pending.isSome x.unit s.cp0.cause x.code
      epc := if s.cp0.status.getLsbD 1 then s.cp0.epc else s.restartPc
      status := s.cp0.status ||| 2#32 }
    pending := none
    pc := vectorBase (s.statusSeen .vector) + x.offset (s.cp0.status.getLsbD 1) (s.statusSeen .vector)
    hist := []
    exc := true } := by
  rw [State.raise, excRegs_rest]
  rfl

theorem toNat_raisedCause (bd : Bool) (unit : BitVec 2) (old : Word) (code : BitVec 5) :
    (raisedCause bd unit old code).toNat =
      bd.toNat * 2 ^ 31 + unit.toNat * 2 ^ 28 + old.toNat / 2 ^ 8 % 2 ^ 8 * 2 ^ 8 + code.toNat * 4 := by
  simp only [raisedCause, toNat_concat, toNat_extract, toNat_bit, BitVec.toNat_ofNat, BitVec.ofNat_eq_ofNat]
  omega

/-- A bit of a word is known from the digit of its number. -/
theorem getLsbD_of_digit {n : Nat} {v : BitVec n} {i : Nat} {b : Bool} (h : v.toNat / 2 ^ i % 2 = b.toNat) :
    v.getLsbD i = b := by
  rw [Bool.eq_iff_iff, getLsbD_iff_digit, h]
  cases b <;> decide

section
variable (bd : Bool) (unit : BitVec 2) (old : Word) (code : BitVec 5)

theorem raisedCause_code : (raisedCause bd unit old code).toNat / 4 % 32 = code.toNat := by
  have hcode : code.toNat < 32 := code.isLt
  rw [toNat_raisedCause]
  omega

theorem raisedCause_bd : (raisedCause bd unit old code).getLsbD 31 = bd := by
  have hcode : code.toNat < 32 := code.isLt
  have hunit : unit.toNat < 4 := unit.isLt
  have hbd := bd.toNat_le
  refine getLsbD_of_digit ?_
  rw [toNat_raisedCause]
  omega

theorem raisedCause_unit : (raisedCause bd unit old code).extractLsb' 28 2 = unit := by
  have hcode : code.toNat < 32 := code.isLt
  have hunit : unit.toNat < 4 := unit.isLt
  rw [extract_eq_iff, toNat_raisedCause]
  omega

/-- The software interrupts stay (11_cp0_registers R94). -/
theorem raisedCause_software : (raisedCause bd unit old code).extractLsb' 8 2 = old.extractLsb' 8 2 := by
  have hcode : code.toNat < 32 := code.isLt
  rw [extract_eq_iff, toNat_raisedCause, toNat_extract]
  omega

end

/-- One bit of Status set. -/
theorem getLsbD_set (v : Word) {i : Nat} (hi : i < 32) (b : Nat) :
    (v ||| BitVec.twoPow 32 i).getLsbD b = (v.getLsbD b || b == i) := by
  rw [BitVec.getLsbD_or, BitVec.getLsbD_twoPow, decide_eq_true hi, Bool.true_and, Bool.beq_eq_decide_eq,
    decide_eq_decide.mpr eq_comm]

/-! ### Vectors (60_exceptions R692, R693) -/

/-- Every exception but a TLB refill with EXL = 0 has the general vector. -/
theorem offset_general {x : Exc} {exl : Bool} (h : ∀ va store, x = .tlbRefill va store → exl = true) (st : Word) :
    x.offset exl st = 0x180 := by
  cases x with
  | tlbRefill va store => exact if_pos (h va store rfl)
  | _ => rfl

/-- An address of the low quarter belongs to the user region (21_mmu_tlb R212). -/
theorem regionExtended_user {va : DWord} (h : va.toNat < 2 ^ 62) (st : Word) : regionExtended st va = st.getLsbD 5 := by
  have htop : va.extractLsb' 62 2 = 0 := by
    rw [extract_eq_iff, Nat.div_eq_of_lt h]
    rfl
  rw [regionExtended, htop]
  rfl

/-! ### Cache Error -/

theorem toNat_cacheErr (p : ParityError) (eb : Bool) : (p.cacheErr eb).toNat =
    p.er.toNat * 2 ^ 31 + p.ed.toNat * 2 ^ 29 + p.et.toNat * 2 ^ 28 + p.ee.toNat * 2 ^ 26 + eb.toNat * 2 ^ 25 +
      p.pa.toNat / 8 % 2 ^ 19 * 8 + p.va.toNat / 2 ^ 12 % 4 := by
  simp only [ParityError.cacheErr, toNat_concat, toNat_extract, toNat_bit, BitVec.toNat_ofNat, BitVec.ofNat_eq_ofNat]
  omega

theorem cacheErr_fields (p : ParityError) (eb : Bool) :
    let c := p.cacheErr eb
    c.getLsbD 31 = p.er ∧ c.getLsbD 30 = false ∧ c.getLsbD 29 = p.ed ∧ c.getLsbD 28 = p.et ∧
    c.getLsbD 27 = false ∧ c.getLsbD 26 = p.ee ∧ c.getLsbD 25 = eb ∧
    c.toNat / 2 ^ 22 % 8 = 0 ∧ c.toNat / 8 % 2 ^ 19 = p.pa.toNat / 8 % 2 ^ 19 ∧
    c.toNat % 8 = p.va.toNat / 2 ^ 12 % 4 := by
  have her := p.er.toNat_le
  have hed := p.ed.toNat_le
  have het := p.et.toNat_le
  have hee := p.ee.toNat_le
  have heb := eb.toNat_le
  refine ⟨getLsbD_of_digit ?_, getLsbD_of_digit ?_, getLsbD_of_digit ?_, getLsbD_of_digit ?_, getLsbD_of_digit ?_,
    getLsbD_of_digit ?_, getLsbD_of_digit ?_, ?_, ?_, ?_⟩ <;>
  · simp only [toNat_cacheErr, Bool.toNat_false]
    omega

/-- Whether an exception takes the TLB refill vector for an address (60_exceptions R692). -/
def refills (st : Word) (x : Exc) (va : DWord) : Bool :=
  decide (¬ st.getLsbD 1 = true) && decide (x = .tlbRefill va (x.code == 3))

theorem refills_iff (st : Word) (x : Exc) (va : DWord) :
    refills st x va = true ↔ st.getLsbD 1 = false ∧ ∃ store, x = .tlbRefill va store := by
  rw [refills, Bool.and_eq_true, decide_eq_true_iff, decide_eq_true_iff, Bool.not_eq_true]
  refine and_congr_right fun _ => ⟨fun h => ⟨_, h⟩, ?_⟩
  rintro ⟨store, rfl⟩
  cases store <;> rfl

theorem offset_of_not_refills {st : Word} {x : Exc} (h : ∀ va, refills st x va = false) :
    x.offset (st.getLsbD 1) st = 0x180 := by
  refine offset_general (fun va store hx => ?_) st
  by_contra hexl
  exact Bool.eq_false_iff.mp (h va) ((refills_iff ..).mpr ⟨Bool.eq_false_iff.mpr hexl, store, hx⟩)

theorem offset_of_refills {st : Word} {x : Exc} {va : DWord} (h : refills st x va = true) :
    x.offset (st.getLsbD 1) st = if regionExtended st va then 0x080 else 0x000 := by
  obtain ⟨hexl, store, rfl⟩ := (refills_iff ..).mp h
  rw [hexl]
  rfl

/-- Settles O55: the exception registers leave Cause, EPC and Status to the general process, whose Cause and CacheErr
are known by their digits. -/
theorem exceptionEntry : Obligations.ExceptionEntry := by
  intro s x hh
  dsimp only
  rw [raise_eq, statusSeen_calm hh]
  refine ⟨(raisedCause_code ..).trans ?code, raisedCause_bd .., fun z hz => ?unit, raisedCause_software .., rfl,
    fun b _ => getLsbD_set _ (i := 1) (by decide) b, fun h => congrArg (vectorBase _ + ·) (offset_of_not_refills h),
    fun va h => ?either, fun va h hva => ?user, rfl, by rw [hh], fun p => ?cacheError⟩
  case code =>
    cases x with
    | tlbRefill _ st | tlbInvalid _ st | addressError _ st | busError st => cases st <;> rfl
    | _ => rfl
  case unit =>
    subst hz
    exact raisedCause_unit ..
  case either =>
    show vectorBase _ + _ = vectorBase _ ∨ _
    rw [offset_of_refills h]
    split
    · exact .inr rfl
    · exact .inl (BitVec.add_zero _)
  case user =>
    show vectorBase _ + _ = if _ then vectorBase _ + _ else vectorBase _
    rw [offset_of_refills h, regionExtended_user hva]
    split
    · rfl
    · exact BitVec.add_zero _
  case cacheError =>
    obtain ⟨h31, h30, h29, h28, h27, h26, h25, hzero, hpa, hva⟩ :=
      cacheErr_fields p (!p.er && s.pick .cacheErrEb)
    refine ⟨rfl, h31, h30, h29, h28, h27, h26, fun her => ?_, hzero, hpa, hva,
      fun b _ => getLsbD_set _ (i := 2) (by decide) b, ?_, ?_⟩
    · exact h25.trans (by rw [her]; rfl)
    · rw [State.raiseCacheError, statusSeen_calm hh]
      rfl
    · rw [State.raiseCacheError, hh]

end

/-! ### The address registers (60_exceptions R700 to R704) -/

theorem getLsbD_highMask (i k : Nat) : (BitVec.allOnes 64 <<< i).getLsbD k = (decide (k < 64) && decide (i ≤ k)) := by
  rw [BitVec.getLsbD_shiftLeft, BitVec.getLsbD_allOnes]
  by_cases hk : k < 64
  · by_cases hi : i ≤ k
    · simp [hk, hi, show k - i < 64 by omega]
    · simp [hi]
  · simp [hk]

/-- Context after a fault: PTEBase from bit 23 up, BadVPN2 from bit 4. -/
theorem getLsbD_putBadVpn2 (context : DWord) (vpn : BitVec 19) (k : Nat) : (putBadVpn2 context vpn).getLsbD k =
    (context.getLsbD k && decide (23 ≤ k) || decide (4 ≤ k) && vpn.getLsbD (k - 4)) := by
  have hmask : contextMask = BitVec.allOnes 64 <<< 23 := by decide
  rw [putBadVpn2, BitVec.getLsbD_or, BitVec.getLsbD_and, getLsbD_field _ (by decide), hmask, getLsbD_highMask]
  by_cases hk : k < 64
  · rw [decide_eq_true hk, Bool.true_and]
  · rw [BitVec.getLsbD_of_ge context k (by omega), Bool.false_and, Bool.false_and]

/-- XContext after a fault: PTEBase from bit 33 up, R from bit 31, BadVPN2 from bit 4. -/
theorem getLsbD_putXBadVpn2 (xContext : DWord) (r : BitVec 2) (vpn : BitVec 27) (k : Nat) :
    (putXBadVpn2 xContext r vpn).getLsbD k =
      (xContext.getLsbD k && decide (33 ≤ k) || decide (31 ≤ k) && r.getLsbD (k - 31) ||
        decide (4 ≤ k) && vpn.getLsbD (k - 4)) := by
  have hmask : xContextMask = BitVec.allOnes 64 <<< 33 := by decide
  rw [putXBadVpn2, BitVec.getLsbD_or, BitVec.getLsbD_or, BitVec.getLsbD_and, getLsbD_field _ (by decide),
    getLsbD_field _ (by decide), hmask, getLsbD_highMask]
  by_cases hk : k < 64
  · rw [decide_eq_true hk, Bool.true_and]
  · rw [BitVec.getLsbD_of_ge xContext k (by omega), Bool.false_and, Bool.false_and]

/-- EntryHi after a fault: R from bit 62 up, VPN2 from bit 13, the old ASID below. -/
theorem getLsbD_putVpn2 (entryHi : DWord) (r : BitVec 2) (vpn : BitVec 27) (k : Nat) :
    (putVpn2 entryHi r vpn).getLsbD k =
      (entryHi.getLsbD k && decide (k < 8) || decide (62 ≤ k) && r.getLsbD (k - 62) ||
        decide (13 ≤ k) && vpn.getLsbD (k - 13)) := by
  have hmask : (0xFF#64) = (BitVec.allOnes 8).setWidth 64 := by decide
  rw [putVpn2, BitVec.getLsbD_or, BitVec.getLsbD_or, BitVec.getLsbD_and, getLsbD_field _ (by decide),
    getLsbD_field _ (by decide), hmask, BitVec.getLsbD_setWidth, BitVec.getLsbD_allOnes]
  by_cases hk : k < 64
  · rw [decide_eq_true hk, Bool.true_and]
  · rw [BitVec.getLsbD_of_ge entryHi k (by omega), Bool.false_and, Bool.false_and]

theorem putVpn2_asid (entryHi : DWord) (r : BitVec 2) (vpn : BitVec 27) :
    (putVpn2 entryHi r vpn).toNat % 256 = entryHi.toNat % 256 := by
  have hlow : (putVpn2 entryHi r vpn).setWidth 8 = entryHi.setWidth 8 := by
    refine BitVec.eq_of_getLsbD_eq fun k hk => ?_
    rw [BitVec.getLsbD_setWidth, BitVec.getLsbD_setWidth, getLsbD_putVpn2]
    simp [hk, show ¬ 62 ≤ k by omega, show ¬ 13 ≤ k by omega]
  simpa [BitVec.toNat_setWidth] using congrArg BitVec.toNat hlow

theorem putVpn2_region (entryHi : DWord) (r : BitVec 2) (vpn : BitVec 27) :
    (putVpn2 entryHi r vpn).toNat / 2 ^ 62 = r.toNat := by
  have hlt : (putVpn2 entryHi r vpn).toNat < 2 ^ 64 := (putVpn2 entryHi r vpn).isLt
  have hhigh : (putVpn2 entryHi r vpn).extractLsb' 62 2 = r := by
    refine BitVec.eq_of_getLsbD_eq fun k hk => ?_
    rw [BitVec.getLsbD_extractLsb', getLsbD_putVpn2, BitVec.getLsbD_of_ge vpn _ (by omega)]
    simp [hk, show ¬ 62 + k < 8 by omega]
  have hdigits := congrArg BitVec.toNat hhigh
  rw [toNat_extract] at hdigits
  omega

/-- What a TLB exception for `va` leaves in the address registers. -/
theorem faultRegs_fields (s : State) (va : DWord) :
    let c := (s.faultRegs va va va va).cp0
    (s.cp0.status.getLsbD 1 = false → c.badVAddr = va) ∧
    (s.cp0.status.getLsbD 1 = true → c.badVAddr = s.cp0.badVAddr) ∧
    (∀ k < 19, c.context.getLsbD (4 + k) = va.getLsbD (13 + k)) ∧
    (∀ k < 41, c.context.getLsbD (23 + k) = s.cp0.context.getLsbD (23 + k)) ∧
    (∀ k < 27, c.xContext.getLsbD (4 + k) = va.getLsbD (13 + k)) ∧
    (∀ k < 2, c.xContext.getLsbD (31 + k) = va.getLsbD (62 + k)) ∧
    (∀ k < 31, c.xContext.getLsbD (33 + k) = s.cp0.xContext.getLsbD (33 + k)) ∧
    c.entryHi.toNat % 256 = s.cp0.entryHi.toNat % 256 ∧
    (∀ k < 27, c.entryHi.getLsbD (13 + k) = va.getLsbD (13 + k)) ∧
    c.entryHi.toNat / 2 ^ 62 = va.toNat / 2 ^ 62 := by
  dsimp only [State.faultRegs]
  refine ⟨fun h => ?_, fun h => ?_, fun k hk => ?_, fun k hk => ?_, fun k hk => ?_, fun k hk => ?_, fun k hk => ?_,
    putVpn2_asid .., fun k hk => ?_, ?_⟩
  · rw [stEXL, h]
    rfl
  · rw [stEXL, h]
    rfl
  · rw [getLsbD_putBadVpn2]
    simp [hk, show ¬ 23 ≤ 4 + k by omega]
  · rw [getLsbD_putBadVpn2]
    simp [show ¬ 23 + k - 4 < 19 by omega]
  · rw [getLsbD_putXBadVpn2]
    simp [hk, show ¬ 33 ≤ 4 + k by omega, show ¬ 31 ≤ 4 + k by omega]
  · rw [getLsbD_putXBadVpn2]
    simp [hk, show ¬ 33 ≤ 31 + k by omega, show ¬ 31 + k - 4 < 27 by omega]
  · rw [getLsbD_putXBadVpn2]
    simp [show ¬ 33 + k - 31 < 2 by omega, show ¬ 33 + k - 4 < 27 by omega]
  · rw [getLsbD_putVpn2]
    simp [hk, show ¬ 13 + k < 8 by omega, show ¬ 62 ≤ 13 + k by omega]
  · rw [putVpn2_region, toNat_extract]
    have hlt : va.toNat < 2 ^ 64 := va.isLt
    omega

/-- Settles O56: the general process leaves the address registers as `State.excRegs` has written them. -/
theorem faultRegisters : Obligations.FaultRegisters := by
  intro s va store z
  refine ⟨?tlb, fun h => ?written, fun h => ?kept, ?others⟩
  case tlb =>
    simp only [List.forall_mem_cons, List.not_mem_nil, false_implies, implies_true, and_true]
    simp only [raise_eq]
    exact ⟨faultRegs_fields s va, faultRegs_fields s va, faultRegs_fields s va⟩
  case written =>
    rw [raise_eq]
    exact if_neg (Bool.eq_false_iff.mp h)
  case kept =>
    rw [raise_eq]
    exact if_pos h
  case others =>
    simp only [List.forall_mem_cons, List.not_mem_nil, false_implies, implies_true, and_true]
    and_intros <;> rfl

end Sys2Proof.Proofs

/-! ## Proofs: interrupts and resets (60_exceptions R698, R730 to R734, 70_reset_and_hazards R830 to R836; O58, O59) -/

namespace Sys2Proof.Proofs
open Sys2Proof.Machine

section
variable {s : State}

/-! ### Interrupts -/

/-- Interrupt request `k` of Cause.IP, from its source (60_exceptions R730). -/
def request (s : State) (k : Nat) : Bool :=
  if k < 2 then s.cp0.cause.getLsbD (8 + k)
  else if k = 7 ∧ s.cfg.tmrIntEn = false then s.timerInt
  else s.intPins.getLsbD (k - 2) || s.intReg.getLsbD (k - 2)

theorem request_line {k : Nat} (hk : 2 ≤ k) : request s k =
    if k = 7 ∧ s.cfg.tmrIntEn = false then s.timerInt else s.intPins.getLsbD (k - 2) || s.intReg.getLsbD (k - 2) :=
  if_neg (by omega)

theorem pendingLines_request {k : Nat} (hk : 2 ≤ k) (hk8 : k < 8) : s.pendingLines.getLsbD (k - 2) = request s k := by
  have hpins : ∀ j < 6, (s.intPins ||| s.intReg.setWidth 6).getLsbD j = (s.intPins.getLsbD j || s.intReg.getLsbD j) :=
    fun j hj => by rw [BitVec.getLsbD_or, BitVec.getLsbD_setWidth, decide_eq_true hj, Bool.true_and]
  rw [request_line hk]
  refine (getLsbD_putBit _ (show 5 < 6 by decide) _ (k - 2)).trans ?_
  rw [hpins 5 (by decide), hpins (k - 2) (by omega)]
  by_cases h7 : k = 7
  · subst h7
    cases s.cfg.tmrIntEn <;> rfl
  · rw [if_neg (show ¬ k - 2 = 5 by omega), if_neg (fun h => h7 h.left)]

theorem ipSeen_request (h : s.hist = []) {k : Nat} (hk : k < 8) : s.ipSeen.getLsbD k = request s k := by
  have hsoft : (zext64 s.cp0.cause).extractLsb' 8 2 = s.cp0.cause.extractLsb' 8 2 := by
    rw [extract_eq_iff, toNat_zext64 (by decide), toNat_extract]
  rw [State.ipSeen, timerSeen_calm h, cp0Seen_calm h, hsoft, BitVec.getLsbD_append]
  by_cases h2 : k < 2
  · rw [if_pos h2, BitVec.getLsbD_extractLsb', decide_eq_true h2, request, if_pos h2, Bool.true_and]
  · rw [if_neg h2]
    exact pendingLines_request (by omega) hk

theorem takesInterrupt_calm (h : s.hist = []) : s.takesInterrupt = true ↔
    (s.cp0.status.getLsbD 0 = true ∧ s.cp0.status.getLsbD 1 = false ∧ s.cp0.status.getLsbD 2 = false) ∧
    ∃ k < 8, request s k = true ∧ s.cp0.status.getLsbD (8 + k) = true := by
  have hie : s.ieSeen = s.cp0.status.getLsbD 0 := by simp [State.ieSeen, h, statusSeen_calm h, stIE]
  have hasked : ((s.ipSeen &&& stIM s.cp0.status) != 0) = true ↔
      ∃ k < 8, request s k = true ∧ s.cp0.status.getLsbD (8 + k) = true := by
    rw [bne_iff_ne, Ne, BitVec.eq_of_getLsbD_eq_iff, not_forall]
    simp only [not_forall, exists_prop]
    refine exists_congr fun k => and_congr_right fun hk => ?_
    rw [BitVec.getLsbD_and, ipSeen_request h hk, stIM, BitVec.getLsbD_extractLsb', decide_eq_true hk]
    simp
  rw [State.takesInterrupt, State.interruptsEnabled, hie, statusSeen_calm h, Bool.and_eq_true, hasked]
  simp only [stEXL, stERL, Bool.and_eq_true, Bool.not_eq_true', and_assoc]

end

/-- Settles O58: the test for an interrupt sees the registers as held, and drops the outcome of the instruction. -/
theorem interruptTaken : Obligations.InterruptTaken := by
  intro s u
  dsimp only
  intro hh hrun hexc hwait
  have houtrank : outranksInterrupt (.next u) = false := by
    rw [outranksInterrupt, hexc, hwait]
    rfl
  have htakes := takesInterrupt_calm hh
  unfold State.runOrInterrupt
  dsimp only
  rw [hrun, houtrank]
  refine ⟨fun h => ?_, fun h => ?_⟩
  · rw [htakes.mpr h]
    rfl
  · rw [Bool.eq_false_iff.mpr (mt htakes.mp h)]
    rfl

/-! ### What a reset aborts in the caches (70_reset_and_hazards R832, D41) -/

section
variable {s t : State}

theorem mem_busyLines {p : Bool × Nat} : p ∈ s.busyLines ↔
    (∃ w, s.busWait = some w ∧ w.line = some p) ∨ ∃ e ∈ s.wbuf, e.slot = some p := by
  simp [State.busyLines, Option.bind_eq_some_iff]

theorem abortLine_dline (s : State) {instr : Bool} {i k : Nat} (h : (instr, i) ≠ (false, k)) :
    (s.abortLine instr i).dline k = s.dline k := by
  cases instr with
  | true => rfl
  | false => exact dline_put_other s (fun e => h (by rw [e])) _

theorem abortLine_iline (s : State) {instr : Bool} {i k : Nat} (h : (instr, i) ≠ (true, k)) :
    (s.abortLine instr i).iline k = s.iline k := by
  cases instr with
  | true => exact iline_put_other s (fun e => h (by rw [e])) _
  | false => rfl

theorem abortAll_dline {l : List (Bool × Nat)} {k : Nat} (h : (false, k) ∉ l) (s : State) :
    (l.foldl (fun u p => u.abortLine p.1 p.2) s).dline k = s.dline k := by
  induction l generalizing s with
  | nil => rfl
  | cons p l ih =>
    obtain ⟨hp, hl⟩ := List.ne_and_not_mem_of_not_mem_cons h
    rw [List.foldl_cons, ih hl, abortLine_dline s (Ne.symm hp)]

theorem abortAll_iline {l : List (Bool × Nat)} {k : Nat} (h : (true, k) ∉ l) (s : State) :
    (l.foldl (fun u p => u.abortLine p.1 p.2) s).iline k = s.iline k := by
  induction l generalizing s with
  | nil => rfl
  | cons p l ih =>
    obtain ⟨hp, hl⟩ := List.ne_and_not_mem_of_not_mem_cons h
    rw [List.foldl_cons, ih hl, abortLine_iline s (Ne.symm hp)]

/-! ### Soft Reset and NMI (70_reset_and_hazards R832) -/

/-- Status after Soft Reset or NMI: BEV, SR and ERL set, bit 21 clear. -/
theorem softStatus_getLsbD (st : Word) {b : Nat} (hb : b < 32) :
    ((st &&& ~~~ 0x00200000#32) ||| 0x00500004#32).getLsbD b =
      if b = 2 ∨ b = 20 ∨ b = 22 then true else if b = 21 then false else st.getLsbD b := by
  have hmask : ∀ b < 32, (0x00500004#32).getLsbD b = decide (b = 2 ∨ b = 20 ∨ b = 22) ∧
      (0x00200000#32).getLsbD b = decide (b = 21) := by decide
  obtain ⟨hset, hclear⟩ := hmask b hb
  rw [BitVec.getLsbD_or, BitVec.getLsbD_and, BitVec.getLsbD_not, hset, hclear]
  by_cases h1 : b = 2 ∨ b = 20 ∨ b = 22
  · simp [h1]
  · by_cases h2 : b = 21
    · simp [h2]
    · simp [h1, h2, hb]

/-- What Soft Reset and NMI do to the machine, but for the caches. -/
def Entered (s t : State) : Prop :=
  t.pc = 0xFFFFFFFFBFC00000#64 ∧ t.cp0.errorEpc = s.restartPc ∧
  (∀ b < 32, t.cp0.status.getLsbD b =
    if b = 2 ∨ b = 20 ∨ b = 22 then true else if b = 21 then false else s.cp0.status.getLsbD b) ∧
  t.pending = none ∧ t.gpr = s.gpr ∧ t.hi = s.hi ∧ t.lo = s.lo ∧ t.fgr = s.fgr ∧ t.fcr31 = s.fcr31 ∧
  t.tlb = s.tlb ∧ t.llbit = s.llbit ∧ t.linkPa = s.linkPa ∧ t.cfg = s.cfg ∧
  t.cp0 = { s.cp0 with errorEpc := t.cp0.errorEpc, status := t.cp0.status, count := t.cp0.count }

theorem softEntry_entered (s : State) : Entered s s.softEntry :=
  ⟨rfl, rfl, fun _ hb => softStatus_getLsbD _ hb, rfl, rfl, rfl, rfl, rfl, rfl, rfl, rfl, rfl, rfl, rfl⟩

theorem softReset_entered (s : State) : Entered s s.softReset := by
  obtain ⟨d, c, h⟩ := abortLines_rest s
  rw [State.softReset, h]
  exact softEntry_entered s

/-- The timer at the end of the step changes Count alone among these. -/
theorem entered_tick (h : Entered s t) : Entered s t.tick := by
  obtain ⟨hpc, hepc, hstatus, hpending, hgpr, hhi, hlo, hfgr, hfcr, htlb, hll, hlink, hcfg, hcp0⟩ := h
  rw [tick_rest]
  refine ⟨hpc, hepc, hstatus, hpending, hgpr, hhi, hlo, hfgr, hfcr, htlb, hll, hlink, hcfg, ?_⟩
  exact congrArg (fun c : Cp0 => { c with count := t.tick.cp0.count }) hcp0

theorem tick_dline (t : State) (k : Nat) : t.tick.dline k = t.dline k := by
  rw [tick_rest]
  rfl

theorem tick_iline (t : State) (k : Nat) : t.tick.iline k = t.iline k := by
  rw [tick_rest]
  rfl

/-! ### The step of a reset -/

section
variable {i : Input} {rest : List Input} (hi : s.inputs = i :: rest)
include hi

theorem input_of_cons : s.input = i := by
  rw [State.input, hi]
  rfl

theorem step_soft (h : i.reset = .soft) : step s = .next s.latchInput.softReset.tick := by
  simp only [step, State.cycle, input_of_cons hi, h]
  rfl

theorem step_cold {st : BitVec 256} (h : i.reset = .cold st) : step s = endStep (s.latchInput.coldReset st) := by
  simp only [step, State.cycle, input_of_cons hi, h]

/-- The pins of this step raise the NMI level, and nothing comes before it. -/
theorem step_nmi (h : i.reset = .none) (hreq : i.requests = []) (hwait : s.busWait = none) (hnmi : i.nmi = true)
    (hprev : s.nmiPrev = false) : step s = .next s.latchInput.softEntry.tick := by
  have hlatch : s.latchInput.nmiLatch = true := by
    show (s.nmiLatch || ((s.input.nmi || _) && !s.nmiPrev)) = true
    rw [input_of_cons hi, hnmi, hprev, Bool.true_or]
    exact Bool.or_true _
  have hwait' : s.latchInput.busWait = none := hwait
  simp only [step, State.cycle, input_of_cons hi, h, hreq, State.extRequests, Res.finish, State.proceed, hwait', hlatch,
    if_true]
  rfl

end

theorem endStep_coldReset {st : BitVec 256} (hok : streamOk st = true) :
    ∃ t : State, endStep (s.coldReset st) = .next t.tick ∧ t.pc = 0xFFFFFFFFBFC00000#64 ∧
      t.cp0 = { Cp0.reset with config := (s.cfg.boot st).configReg, errorEpc := s.restartPc } ∧ t.wbuf = [] ∧
      t.cfg = s.cfg.boot st := by
  rw [State.coldReset, if_pos hok]
  exact ⟨_, rfl, rfl, rfl, rfl, rfl⟩

/-! ### Config after a Reset (11_cp0_registers R100) -/

theorem toNat_configReg (c : Params) : c.configReg.toNat =
    c.sysCkRatio.toNat * 2 ^ 28 + c.xmitDatPat.toNat * 2 ^ 24 + c.bigEndian.toNat * 2 ^ 15 + 0x64B2 := by
  have hfields : ∀ (r : BitVec 3) (x : BitVec 4) (b : Bool),
      (0x64B0#32 ||| (r.setWidth 32 <<< 28) ||| (x.setWidth 32 <<< 24) ||| ((bit b).setWidth 32 <<< 15)
        ||| 2#32).toNat = r.toNat * 2 ^ 28 + x.toNat * 2 ^ 24 + b.toNat * 2 ^ 15 + 0x64B2 := by decide
  exact hfields c.sysCkRatio c.xmitDatPat c.bigEndian

theorem bootConfig_toNat (c : Params) (st : BitVec 256) : (c.boot st).configReg.toNat =
    st.toNat / 2 ^ 5 % 8 * 2 ^ 28 + st.toNat / 2 % 16 * 2 ^ 24 + (st.getLsbD 8).toNat * 2 ^ 15 + 0x64B2 := by
  rw [toNat_configReg]
  dsimp only [Params.boot]
  rw [toNat_extract, toNat_extract]
  rfl

end

/-- Settles O59: a Soft Reset and an NMI enter alike, the one after aborting the busy lines; what a Reset leaves is
`State.reset` with Config from the boot stream. -/
theorem resets : Obligations.Resets := by
  intro s i rest hi
  dsimp only
  refine ⟨fun h => ⟨_, step_soft hi h, ?soft, ?_, ?_, ?_⟩, fun h hreq hwait hnmi hprev =>
    ⟨_, step_nmi hi h hreq hwait hnmi hprev, ?nmi, ?_, ?_, ?_, ?_⟩, fun st h hok => ?cold⟩
  case soft =>
    obtain ⟨hpc, hepc, hstatus, hpending, hgpr, hhi, hlo, hfgr, hfcr, htlb, hll, hlink, hcfg, hcp0⟩ :=
      entered_tick (softReset_entered s.latchInput)
    refine ⟨hpc, hepc, hstatus, hpending, hgpr, hhi, hlo, hfgr, hfcr, htlb, hll, hlink, fun k hk => ?_, fun k hk => ?_,
      hcfg, hcp0⟩
    · rw [tick_dline]
      exact abortAll_dline (mt mem_busyLines.mp hk) s.latchInput
    · rw [tick_iline]
      exact abortAll_iline (mt mem_busyLines.mp hk) s.latchInput
  case nmi =>
    obtain ⟨hpc, hepc, hstatus, hpending, hgpr, hhi, hlo, hfgr, hfcr, htlb, hll, hlink, hcfg, hcp0⟩ :=
      entered_tick (softEntry_entered s.latchInput)
    exact ⟨hpc, hepc, hstatus, hpending, hgpr, hhi, hlo, hfgr, hfcr, htlb, hll, hlink,
      fun k _ => tick_dline _ k, fun k _ => tick_iline _ k, hcfg, hcp0⟩
  case cold =>
    obtain ⟨t, ht, hpc, hcp0, hwbuf, hcfg⟩ := endStep_coldReset (s := s.latchInput) hok
    have hconfig := bootConfig_toNat s.latchInput.cfg st
    have hb := Bool.toNat_le (st.getLsbD 8)
    obtain ⟨h2, h22, h20, h21⟩ : Cp0.reset.status.getLsbD 2 = true ∧ Cp0.reset.status.getLsbD 22 = true ∧
        Cp0.reset.status.getLsbD 20 = false ∧ Cp0.reset.status.getLsbD 21 = false := by decide
    refine ⟨_, (step_cold hi h).trans ht, ?_⟩
    rw [tick_rest]
    dsimp only
    rw [hpc, hcp0, hwbuf, hcfg]
    refine ⟨rfl, rfl, rfl, rfl, h2, h22, h20, h21, rfl, rfl, getLsbD_of_digit ?_, ?_⟩
    all_goals
      dsimp only
      rw [hconfig]
      omega
  all_goals
    rw [tick_rest]
    rfl

end Sys2Proof.Proofs

/-! ## Proofs: the floating-point registers and FCR31 (47_fpu_state_formats R560 to R573, 48_fpu_moves R610 to R619;
O44, O45) -/

namespace Sys2Proof.Proofs
open Sys2Proof.Machine

section
variable {s t u : State} {i : Instr}

/-! ### Registers (47_fpu_state_formats R560, R561) -/

/-- With FR = 0 a number is its pair and its half. -/
theorem fprIndex_inj_pair {m n : Reg} (hpair : fprIndex false m = fprIndex false n)
    (hhalf : m.getLsbD 0 = n.getLsbD 0) : m = n := by
  refine BitVec.eq_of_getLsbD_eq fun j hj => ?_
  by_cases h0 : j = 0
  · rw [h0, hhalf]
  · have hbit : ∀ j < 5, j ≠ 0 → (0x1E#5).getLsbD j = true := by decide
    have hj' : (m &&& 0x1E#5).getLsbD j = (n &&& 0x1E#5).getLsbD j := congrArg (·.getLsbD j) hpair
    rwa [BitVec.getLsbD_and, BitVec.getLsbD_and, hbit j hj h0, Bool.and_true, Bool.and_true] at hj'

theorem fprDword_congr (h : t.fgr = u.fgr) (fr : Bool) (n : Reg) : t.fprDword fr n = u.fprDword fr n := by
  rw [State.fprDword, State.fprDword, h]

theorem fprWord_eq_half (s : State) (fr : Bool) (n : Reg) : s.fprWord fr n =
    if !fr && n.getLsbD 0 then high32 (s.fprDword fr n) else low32 (s.fprDword fr n) := rfl

theorem fprWord_congr (h : t.fgr = u.fgr) (fr : Bool) (n : Reg) : t.fprWord fr n = u.fprWord fr n := by
  rw [fprWord_eq_half, fprWord_eq_half, fprDword_congr h]

theorem fprDword_writeFgr (s : State) (fr : Bool) (m n : Reg) (v : DWord) :
    (s.writeFgr (fprIndex fr n) v).fprDword fr m = if fprIndex fr m = fprIndex fr n then v else s.fprDword fr m := by
  rw [State.fprDword, writeFgr_fgr, Vector.getElem_set]
  simp only [BitVec.toNat_inj, eq_comm (a := fprIndex fr n)]
  rfl

theorem keepsFprs64_setFpr64 (n : Reg) (v : DWord) : s.keepsFprs64 (s.setFpr64 n v) s.frSeen n := fun m hm => by
  rw [State.setFpr64, fprDword_writeFgr, if_neg hm]

theorem fprDword_setFpr64 (n : Reg) (v : DWord) : (s.setFpr64 n v).fprDword s.frSeen n = v := by
  rw [State.setFpr64, fprDword_writeFgr, if_pos rfl]

theorem low32_append (a b : Word) : low32 (a ++ b) = b := BitVec.setWidth_append_eq_right

theorem high32_append (a b : Word) : high32 (a ++ b) = a := BitVec.extractLsb'_append_eq_left

theorem fgrAfter32_eq (s : State) (n : Reg) (v : Word) : s.fgrAfter32 n v =
    if s.frSeen then high32 (s.freeWord (.fgrUpper n)) ++ v
    else if n.getLsbD 0 then v ++ low32 (s.fprDword s.frSeen n)
    else high32 (s.fprDword s.frSeen n) ++ v := rfl

theorem fprWord_setFpr32 (n : Reg) (v : Word) : (s.setFpr32 n v).fprWord s.frSeen n = v := by
  rw [fprWord_eq_half, State.setFpr32, fprDword_writeFgr, if_pos rfl, fgrAfter32_eq]
  cases s.frSeen
  · cases n.getLsbD 0
    · exact low32_append _ _
    · exact high32_append _ _
  · exact low32_append _ _

/-- A word write leaves the other half of the pair. -/
theorem keepsFprs32_setFpr32 (n : Reg) (v : Word) : s.keepsFprs32 (s.setFpr32 n v) s.frSeen n := fun m hm => by
  have hnew : (s.setFpr32 n v).fprDword s.frSeen m =
      if fprIndex s.frSeen m = fprIndex s.frSeen n then s.fgrAfter32 n v else s.fprDword s.frSeen m :=
    fprDword_writeFgr ..
  rw [fprWord_eq_half, fprWord_eq_half, hnew]
  by_cases hi : fprIndex s.frSeen m = fprIndex s.frSeen n
  · cases hfr : s.frSeen with
    | true =>
      rw [hfr] at hi
      exact absurd hi hm
    | false =>
      rw [hfr] at hi
      refine ⟨?_, fun h => absurd h Bool.false_ne_true⟩
      have hold : s.fprDword false n = s.fprDword false m := by
        rw [State.fprDword, State.fprDword]
        simp only [hi]
      have hhalf : m.getLsbD 0 = !n.getLsbD 0 := by
        rw [Bool.eq_not]
        exact fun h => hm (fprIndex_inj_pair hi h)
      rw [if_pos hi, fgrAfter32_eq, hfr, hold, hhalf]
      cases n.getLsbD 0
      · exact high32_append _ _
      · exact low32_append _ _
  · rw [if_neg hi]
    exact ⟨rfl, fun _ => rfl⟩

/-! ### The end of a floating-point instruction -/

/-- What an instruction of the coprocessor may have changed when it ends. -/
def FpuOnly (s u : State) : Prop := u = { s with fgr := u.fgr, fcr31 := u.fcr31, hist := u.hist }

theorem FpuOnly.onlyFpu (h : FpuOnly s u) : s.OnlyFpu u.retire := by
  constructor
  · intro a
    rw [retire_rest, h]
  · rw [retire_rest, h]

theorem FpuOnly.continued (h : FpuOnly s u) : s.Continued u.retire := by
  apply continued_of <;> rw [h]

theorem retire_fgr (u : State) : u.retire.fgr = u.fgr := by rw [retire_rest]

theorem retire_fcr31 (u : State) : u.retire.fcr31 = u.fcr31 := by rw [retire_rest]

/-- An instruction that ends with the word `v` written to floating-point register `n`. -/
theorem completes_wroteFpr32 {n : Reg} {v : Word} (h : exec i s = u.done) (hu : FpuOnly s u)
    (hfgr : u.fgr = (s.setFpr32 n v).fgr) (hfcr : u.fcr31 = s.fcr31) : s.completes i (s.WroteFpr32 · s.frSeen n v) := by
  have hfgr' : u.retire.fgr = (s.setFpr32 n v).fgr := (retire_fgr u).trans hfgr
  refine ⟨u.retire, h, ?_, fun m hm => ?_, (retire_fcr31 u).trans hfcr, hu.onlyFpu, hu.continued⟩
  · rw [fprWord_congr hfgr', fprWord_setFpr32]
  · rw [fprWord_congr hfgr', fprDword_congr hfgr']
    exact keepsFprs32_setFpr32 n v m hm

/-- An instruction that ends with the doubleword `v` written to floating-point register `n`. -/
theorem completes_wroteFpr64 {n : Reg} {v : DWord} (h : exec i s = u.done) (hu : FpuOnly s u)
    (hfgr : u.fgr = (s.setFpr64 n v).fgr) (hfcr : u.fcr31 = s.fcr31) : s.completes i (s.WroteFpr64 · s.frSeen n v) := by
  have hfgr' : u.retire.fgr = (s.setFpr64 n v).fgr := (retire_fgr u).trans hfgr
  refine ⟨u.retire, h, ?_, fun m hm => ?_, (retire_fcr31 u).trans hfcr, hu.onlyFpu, hu.continued⟩
  · rw [fprDword_congr hfgr', fprDword_setFpr64]
  · rw [fprDword_congr hfgr']
    exact keepsFprs64_setFpr64 n v m hm

/-- Recording a late write of a floating-point register changes the record alone. -/
theorem noteFgr_rest (u old : State) (n : Reg) : u.noteFgr old n = { u with hist := (u.noteFgr old n).hist } := by
  unfold State.noteFgr
  split <;> rfl

theorem noteFcr_rest (u : State) (old : Word) : u.noteFcr old = { u with hist := (u.noteFcr old).hist } := by
  unfold State.noteFcr
  dsimp only
  split <;> rfl

/-! ### FCR31 (47_fpu_state_formats R570, R572) -/

/-- A condition traps: Unimplemented Operation always does, the others if enabled. -/
theorem fpTraps_iff (x : BitVec 6) (en : BitVec 5) :
    fpTraps x en = true ↔ x.getLsbD 5 = true ∨ ∃ k < 5, x.getLsbD k = true ∧ en.getLsbD k = true := by
  rw [fpTraps, Bool.or_eq_true, bne_iff_ne, Ne, BitVec.eq_of_getLsbD_eq_iff, not_forall]
  refine or_congr_right (exists_congr fun k => ?_)
  simp only [not_forall, exists_prop]
  refine and_congr_right fun hk => ?_
  rw [BitVec.getLsbD_and, BitVec.getLsbD_setWidth, decide_eq_true hk, Bool.true_and]
  simp

end

/-! ### Moves (48_fpu_moves R614 to R619) -/

section
variable (v : DWord)

theorem low32_and_mask : low32 v &&& fcr31Mask = BitVec.ofNat 32 (v.toNat &&& 0x0183FFFF) := by
  apply BitVec.eq_of_toNat_eq
  rw [BitVec.toNat_and, low32, BitVec.toNat_setWidth, BitVec.toNat_ofNat, Nat.and_mod_two_pow]
  rfl

/-- The bits of FCR31 that CTC1 tests are those of the general register. -/
theorem fpTraps_ctc1 : fpTraps (fcrCause (low32 v &&& fcr31Mask)) (fcrEnables (low32 v &&& fcr31Mask)) = true ↔
    v.getLsbD 17 = true ∨ ∃ k < 5, v.getLsbD (12 + k) = true ∧ v.getLsbD (7 + k) = true := by
  have hmask : ∀ b < 18, fcr31Mask.getLsbD b = true := by decide
  have hbit : ∀ b < 18, (low32 v &&& fcr31Mask).getLsbD b = v.getLsbD b := fun b hb => by
    rw [BitVec.getLsbD_and, hmask b hb, low32, BitVec.getLsbD_setWidth, decide_eq_true (by omega), Bool.and_true,
      Bool.true_and]
  have hcause : ∀ k < 6, (fcrCause (low32 v &&& fcr31Mask)).getLsbD k = v.getLsbD (12 + k) := fun k hk => by
    rw [fcrCause, BitVec.getLsbD_extractLsb', decide_eq_true hk, Bool.true_and, hbit _ (by omega)]
  have henable : ∀ k < 5, (fcrEnables (low32 v &&& fcr31Mask)).getLsbD k = v.getLsbD (7 + k) := fun k hk => by
    rw [fcrEnables, BitVec.getLsbD_extractLsb', decide_eq_true hk, Bool.true_and, hbit _ (by omega)]
  rw [fpTraps_iff, hcause 5 (by decide)]
  refine or_congr_right (exists_congr fun k => and_congr_right fun hk => ?_)
  rw [hcause k (by omega), henable k hk]

/-- FCR0 (47_fpu_state_formats R566). -/
theorem sext64_fcr0 (s : State) : sext64 s.fcr0 = BitVec.ofNat 64 (0x2100 + s.cfg.fcr0Rev.toNat) := by
  have hrev : ∀ r : BitVec 8, sext64 (0x2100#32 ||| r.setWidth 32) = BitVec.ofNat 64 (0x2100 + r.toNat) := by decide
  exact hrev _

end

/-- Settles O45: each move is a late write of a general register or a write of a floating-point register; CTC1 tests the
bits it wrote. -/
theorem fpMoves : Obligations.FpMoves := by
  intro s rt fs h1
  dsimp only
  have usable : ∀ k : Result, s.needsCop 1 k = k := needsCop_usable h1
  rw [← low32_and_mask]
  refine ⟨?mfc1, ?mtc1, fun h64 => ⟨?dmfc1, ?dmtc1⟩, ?fcr0, ?fcr31, ?other, fun ht => ?ctc1, fun ht => ?trap,
    fun hfs => ?lost⟩
  case mfc1 => exact completes_writeGprLate (usable _)
  case mtc1 =>
    have hlow : low32 (s.readGpr rt) = BitVec.ofNat 32 (s.readGpr rt).toNat := rfl
    rw [← hlow]
    refine completes_wroteFpr32 (usable _) ?_ ?_ ?_ <;> rw [noteFgr_rest] <;> rfl
  case dmfc1 => exact completes_writeGprLate ((usable _).trans (needs64_enabled h64 _))
  case dmtc1 =>
    refine completes_wroteFpr64 ((usable _).trans (needs64_enabled h64 _)) ?_ ?_ ?_ <;> rw [noteFgr_rest] <;> rfl
  case fcr0 =>
    rw [← sext64_fcr0]
    exact completes_writeGprLate (usable _)
  case fcr31 => exact completes_writeGprLate (usable _)
  case other =>
    obtain ⟨t, ht, hw⟩ := completes_writeGprLate (i := .cfc1 rt fs) (usable _)
    exact ⟨t, ht, _, hw⟩
  case ctc1 =>
    have hu : ∀ v, FpuOnly s (State.noteFcr { s with fcr31 := v } s.fcr31) := fun v => by
      rw [FpuOnly, noteFcr_rest]
    refine ⟨_, (usable _).trans ((if_pos rfl).trans (if_neg (mt (fpTraps_ctc1 _).mp ht))), ?_, ?_,
      (hu _).onlyFpu, (hu _).continued⟩
    · rw [retire_fcr31, noteFcr_rest]
    · rw [retire_fgr, noteFcr_rest]
  case trap => exact (usable _).trans ((if_pos rfl).trans (if_pos ((fpTraps_ctc1 _).mpr ht)))
  case lost => exact completes_done ((usable _).trans (if_neg hfs))

/-! ### Loads and stores (48_fpu_moves R610 to R613) -/

theorem zext64_eq_ofNat {n : Nat} (hn : n ≤ 64) (v : BitVec n) : zext64 v = BitVec.ofNat 64 v.toNat := by
  rw [← toNat_zext64 hn, BitVec.ofNat_toNat, BitVec.setWidth_eq]

/-- Settles O44: an uncached load is the datum from memory and a register write, a store the register's bytes. -/
theorem fpLoadStore : Obligations.FpLoadStore := by
  intro s base ft offset pa
  dsimp only
  rw [address_eq_ea]
  intro h1
  have usable : ∀ k : Result, s.needsCop 1 k = k := needsCop_usable h1
  have loaded : ∀ {u : State} {bus : List BusReq}, u = { drained s bus with fgr := u.fgr } →
      (∀ a, u.retire.byteAt a = s.byteAt a) ∧ s.Continued u.retire ∧
      u.retire = { s with
        fgr := u.retire.fgr, pc := u.retire.pc, pending := u.retire.pending, mem := u.retire.mem
        wbuf := u.retire.wbuf, bus := u.retire.bus, cp0 := { s.cp0 with random := u.retire.cp0.random } } := by
    intro u bus hu
    refine ⟨fun a => ?_, ?_, ?_⟩
    · rw [retire_rest, hu]
      rfl
    · apply continued_of <;> rw [hu] <;> rfl
    · rw [retire_rest, hu]
      rfl
  refine ⟨fun h => ?word, fun h => ?dword, fun hwf h => ?sword, fun hwf h => ?sdword⟩
  case word =>
    obtain ⟨d, bus, hd, hmem⟩ := loadDatum_uncached (by decide) h
    have hfgr := retire_fgr ((drained s bus).setFpr32 ft (low32 d))
    have hrun : exec (.lwc1 base ft offset) s = ((drained s bus).setFpr32 ft (low32 d)).done :=
      (usable _).trans (congrArg (Res.finish · fun d s1 => (s1.setFpr32 ft (low32 d)).done) hd)
    refine ⟨_, hrun, loaded (bus := bus) rfl, ?_, fun m hm => ?_⟩
    · rw [fprWord_congr hfgr]
      exact (congrArg BitVec.toNat (fprWord_setFpr32 (s := drained s bus) ft (low32 d))).trans
        ((BitVec.toNat_setWidth ..).trans hmem)
    · rw [fprWord_congr hfgr, fprDword_congr hfgr]
      exact keepsFprs32_setFpr32 (s := drained s bus) ft (low32 d) m hm
  case dword =>
    obtain ⟨d, bus, hd, hmem⟩ := loadDatum_uncached (by decide) h
    have hfgr := retire_fgr ((drained s bus).setFpr64 ft d)
    have hrun : exec (.ldc1 base ft offset) s = ((drained s bus).setFpr64 ft d).done :=
      (usable _).trans (congrArg (Res.finish · fun d s1 => (s1.setFpr64 ft d).done) hd)
    refine ⟨_, hrun, loaded (bus := bus) rfl, ?_, fun m hm => ?_⟩
    · rw [fprDword_congr hfgr]
      exact (congrArg BitVec.toNat (fprDword_setFpr64 (s := drained s bus) ft d)).trans
        ((Nat.mod_eq_of_lt d.isLt).symm.trans hmem)
    · rw [fprDword_congr hfgr]
      exact keepsFprs64_setFpr64 (s := drained s bus) ft d m hm
  case sword =>
    rw [← zext64_eq_ofNat (by decide)]
    exact completes_storeDatum (by decide) hwf h (usable _)
  case sdword => exact completes_storeDatum (by decide) hwf h (usable _)

end Sys2Proof.Proofs

/-! ## Proofs: how a floating-point instruction ends, and the sign moves (47_fpu_state_formats R572, 48_fpu_moves
R624, 49_fpu_arith_convert_compare R630, R645, R646; O46) -/

namespace Sys2Proof.Proofs
open Sys2Proof.Machine

/-! ### The fields of FCR31 (47_fpu_state_formats R570) -/

theorem getLsbD_mergeMask {n : Nat} (mask old new : BitVec n) (k : Nat) :
    (mergeMask mask old new).getLsbD k = if mask.getLsbD k then new.getLsbD k else old.getLsbD k := by
  rw [mergeMask, BitVec.getLsbD_or, BitVec.getLsbD_and, BitVec.getLsbD_and, BitVec.getLsbD_not]
  by_cases hk : k < n
  · cases mask.getLsbD k <;> simp [hk]
  · simp [BitVec.getLsbD_of_ge _ _ (Nat.le_of_not_lt hk)]

theorem getLsbD_putCause (f : Word) (x : BitVec 6) {k : Nat} (hk : k < 32) :
    (putCause f x).getLsbD k = if 12 ≤ k ∧ k < 18 then x.getLsbD (k - 12) else f.getLsbD k := by
  have hmask : ∀ k < 32, (0x3F000#32).getLsbD k = decide (12 ≤ k ∧ k < 18) := by decide
  rw [putCause, getLsbD_mergeMask, hmask k hk]
  by_cases h : 12 ≤ k ∧ k < 18
  · rw [decide_eq_true h, if_pos rfl, if_pos h, BitVec.getLsbD_shiftLeft, BitVec.getLsbD_setWidth]
    simp [hk, h.left, show k - 12 < 32 by omega]
  · simp [h]

theorem getLsbD_putFlags (f : Word) (x : BitVec 5) {k : Nat} (hk : k < 32) :
    (putFlags f x).getLsbD k = if 2 ≤ k ∧ k < 7 then x.getLsbD (k - 2) else f.getLsbD k := by
  have hmask : ∀ k < 32, (0x7C#32).getLsbD k = decide (2 ≤ k ∧ k < 7) := by decide
  rw [putFlags, getLsbD_mergeMask, hmask k hk]
  by_cases h : 2 ≤ k ∧ k < 7
  · rw [decide_eq_true h, if_pos rfl, if_pos h, BitVec.getLsbD_shiftLeft, BitVec.getLsbD_setWidth]
    simp [hk, show ¬ k < 2 by omega, show k - 2 < 32 by omega]
  · simp [h]

/-- FCR31 after an operation with conditions `x` that completes (47_fpu_state_formats R572). -/
def recorded (f : Word) (x : BitVec 6) : Word :=
  putFlags (putCause f x) (fcrFlags (putCause f x) ||| x.setWidth 5)

section
variable (f : Word) (x : BitVec 6)

theorem fcrFlags_putCause : fcrFlags (putCause f x) = fcrFlags f := by
  refine BitVec.eq_of_getLsbD_eq fun k hk => ?_
  rw [fcrFlags, fcrFlags, BitVec.getLsbD_extractLsb', BitVec.getLsbD_extractLsb', getLsbD_putCause _ _ (by omega),
    if_neg (by omega)]

theorem getLsbD_recorded {k : Nat} (hk : k < 32) : (recorded f x).getLsbD k =
    if 2 ≤ k ∧ k < 7 then (fcrFlags f ||| x.setWidth 5).getLsbD (k - 2)
    else if 12 ≤ k ∧ k < 18 then x.getLsbD (k - 12) else f.getLsbD k := by
  rw [recorded, getLsbD_putFlags _ _ hk, getLsbD_putCause _ _ hk, fcrFlags_putCause]

/-- The Cause and Flag fields of a register that agrees with `recorded` there. -/
theorem recorded_fields {g : Word} (h : ∀ k < 18, g.getLsbD k = (recorded f x).getLsbD k) :
    fcrCause g = x ∧ fcrFlags g = fcrFlags f ||| x.setWidth 5 := by
  constructor <;> refine BitVec.eq_of_getLsbD_eq fun k hk => ?_
  · rw [fcrCause, BitVec.getLsbD_extractLsb', decide_eq_true hk, Bool.true_and, h _ (by omega),
      getLsbD_recorded _ _ (by omega), if_neg (by omega), if_pos (by omega), Nat.add_sub_cancel_left]
  · rw [fcrFlags, BitVec.getLsbD_extractLsb', decide_eq_true hk, Bool.true_and, h _ (by omega),
      getLsbD_recorded _ _ (by omega), if_pos (by omega), Nat.add_sub_cancel_left, fcrFlags]

theorem recorded_control {k : Nat} (hk : k < 32) (hout : k < 2 ∨ 6 < k ∧ k < 12 ∨ 17 < k) :
    (recorded f x).getLsbD k = f.getLsbD k := by
  rw [getLsbD_recorded _ _ hk, if_neg (by omega), if_neg (by omega)]

end

/-! ### FPFinish (47_fpu_state_formats R572) -/

theorem fpTraps_none (en : BitVec 5) : fpTraps 0 en = false := by
  rw [Bool.eq_false_iff, Ne, fpTraps_iff]
  rintro (h | ⟨k, -, h, -⟩) <;> simp at h

theorem fpTraps_unimplemented (en : BitVec 5) : fpTraps fpE en = true := (fpTraps_iff _ _).mpr (.inl rfl)

/-- A single condition traps if it is enabled. -/
theorem fpTraps_single {x : BitVec 6} {j : Nat} (hj : j < 5) (hx : ∀ k < 6, x.getLsbD k = true ↔ k = j)
    (en : BitVec 5) : fpTraps x en = en.getLsbD j := by
  rw [Bool.eq_iff_iff, fpTraps_iff]
  constructor
  · rintro (h | ⟨k, hk, hxk, hen⟩)
    · have h5 := (hx 5 (by decide)).mp h
      omega
    · rwa [(hx k (by omega)).mp hxk] at hen
  · exact fun h => .inr ⟨j, hj, (hx j (by omega)).mpr rfl, h⟩

theorem fpTraps_invalid (en : BitVec 5) : fpTraps fpV en = en.getLsbD 4 := fpTraps_single (by decide) (by decide) en

theorem fpTraps_inexact (en : BitVec 5) : fpTraps fpI en = en.getLsbD 0 := fpTraps_single (by decide) (by decide) en

section
variable {s : State} {i : Instr} {x : BitVec 6} {wide : Bool} {fd : Reg} {v : DWord} {bits : Nat}

theorem fpFinish_traps {store : State → State} (h : exec i s = s.fpFinish x store)
    (ht : fpTraps x (fcrEnables s.fcrSeen) = true) : s.fpTrapped i x := h.trans (if_pos ht)

theorem fpTrapped_unimplemented (h : exec i s = s.fpUnimplemented) : s.fpTrapped i fpE :=
  fpFinish_traps h (fpTraps_unimplemented _)

theorem fpStore_fgr (wide : Bool) (fd : Reg) (v : DWord) (u : State) : State.fpStore wide fd v u =
    { u with fgr := if wide then (u.setFpr64 fd v).fgr else (u.setFpr32 fd (low32 v)).fgr } := by
  cases wide <;> rfl

theorem low32_ofNat (n : Nat) : low32 (BitVec.ofNat 64 n) = BitVec.ofNat 32 n :=
  BitVec.setWidth_ofNat_of_le (by decide) n

/-- An operation without a trap stores its result and records its conditions. -/
theorem completes_fpFinish (h : exec i s = s.fpFinish x (State.fpStore wide fd v))
    (ht : fpTraps x (fcrEnables s.fcrSeen) = false) (hv : v = BitVec.ofNat 64 bits) :
    s.completes i (s.WroteFp · wide fd bits x) := by
  have hrun : exec i s = (State.fpStore wide fd v { s with fcr31 := recorded s.fcr31 x }).done := by
    rw [h, State.fpFinish]
    dsimp only
    rw [ht]
    rfl
  have honly : FpuOnly s (State.fpStore wide fd v { s with fcr31 := recorded s.fcr31 x }) := by
    rw [FpuOnly, fpStore_fgr]
  have hfcr : (State.fpStore wide fd v { s with fcr31 := recorded s.fcr31 x }).retire.fcr31 = recorded s.fcr31 x := by
    rw [retire_fcr31, fpStore_fgr]
  obtain ⟨hcause, hflags⟩ := recorded_fields s.fcr31 x fun _ _ => rfl
  refine ⟨_, hrun, ?result, ?others, by rw [hfcr, hcause], by rw [hfcr, hflags], fun b hb hout => ?_, honly.onlyFpu,
    honly.continued⟩
  case result =>
    cases wide with
    | true =>
      rw [if_pos rfl, fprDword_congr (retire_fgr _), ← hv]
      exact fprDword_setFpr64 (s := { s with fcr31 := recorded s.fcr31 x }) fd v
    | false =>
      rw [if_neg Bool.false_ne_true, fprWord_congr (retire_fgr _), ← low32_ofNat, ← hv]
      exact fprWord_setFpr32 (s := { s with fcr31 := recorded s.fcr31 x }) fd (low32 v)
  case others =>
    cases wide with
    | true =>
      rw [if_pos rfl]
      intro m hm
      rw [fprDword_congr (retire_fgr _)]
      exact keepsFprs64_setFpr64 (s := { s with fcr31 := recorded s.fcr31 x }) fd v m hm
    | false =>
      rw [if_neg Bool.false_ne_true]
      intro m hm
      rw [fprWord_congr (retire_fgr _), fprDword_congr (retire_fgr _)]
      exact keepsFprs32_setFpr32 (s := { s with fcr31 := recorded s.fcr31 x }) fd (low32 v) m hm
  · rw [hfcr, recorded_control _ _ hb hout]

/-- An operation that is invalid: the trap if it is enabled, else the given result. -/
theorem invalid_fpFinish (h : exec i s = s.fpFinish fpV (State.fpStore wide fd v)) (hv : v = BitVec.ofNat 64 bits) :
    if (fcrEnables s.fcrSeen).getLsbD 4 = true then s.fpTrapped i fpV
    else s.completes i (s.WroteFp · wide fd bits fpV) := by
  by_cases h4 : (fcrEnables s.fcrSeen).getLsbD 4 = true
  · rw [if_pos h4]
    exact fpFinish_traps h ((fpTraps_invalid _).trans h4)
  · rw [if_neg h4]
    exact completes_fpFinish h ((fpTraps_invalid _).trans (Bool.eq_false_iff.mpr h4)) hv

/-! ### The common evaluation (49_fpu_arith_convert_compare R630) -/

theorem fpStart_usable (h1 : s.copUsable 1 = true) {wideOp : Bool} (h64 : wideOp = true → s.ops64Enabled = true)
    (k : Result) : s.fpStart wideOp k = k := by
  rw [State.fpStart, needsCop_usable h1]
  cases wideOp with
  | true => exact needs64_enabled (h64 rfl) k
  | false => rfl

/-- A register that may hold an operand of a format is no undefined one. -/
theorem wide_oddFpr {f : FpFmt} {n : Reg} (h : s.holds f n) : (f.wide && s.oddFpr n) = false := by
  cases hw : f.wide with
  | false => rfl
  | true =>
    rw [State.oddFpr, Bool.true_and]
    cases hfr : s.frSeen with
    | true => rfl
    | false => exact h hw hfr

/-- A code with its format is one of the two, and no code of a 64-bit operation. -/
theorem fpFormat_of_mem {e : BitVec 5 × FpFmt} (he : e ∈ fpFormats) :
    fpFormat e.1 = some e.2 ∧ (e.1 == 21) = false := by
  revert e
  decide

section
variable {e : BitVec 5 × FpFmt} {fs ft : Reg} (h1 : s.copUsable 1 = true) (he : e ∈ fpFormats)
include h1 he

theorem fpStart_format (k : Result) : s.fpStart (e.1 == 21) k = k :=
  fpStart_usable h1 (fun h => absurd ((fpFormat_of_mem he).right.symm.trans h) Bool.false_ne_true) k

variable (hfs : s.holds e.2 fs) (hfd : s.holds e.2 fd)
include hfs hfd

theorem fpArith1_eq (op : FpFmt → DWord → Nat → BitVec 6 × DWord) : s.fpArith1 e.1 fs fd op =
    if e.2.screened (s.fpOperand e.2 fs) then s.fpUnimplemented
    else s.fpFinish (op e.2 (s.qnan e.2) (s.fpOperand e.2 fs)).1
      (State.fpStore e.2.wide fd (op e.2 (s.qnan e.2) (s.fpOperand e.2 fs)).2) := by
  rw [State.fpArith1, fpStart_format h1 he, (fpFormat_of_mem he).left]
  dsimp only
  rw [State.fpUnary, wide_oddFpr hfs, wide_oddFpr hfd]
  rfl

theorem fpArith2_eq (hft : s.holds e.2 ft) (op : FpFmt → FpMode → DWord → FpVal → FpVal → BitVec 6 × DWord) :
    s.fpArith2 e.1 ft fs fd op =
      if e.2.screened (s.fpOperand e.2 fs) || e.2.screened (s.fpOperand e.2 ft) then s.fpUnimplemented
      else
        let r := op e.2 s.fpMode (s.qnan e.2) (e.2.value (s.fpOperand e.2 fs)) (e.2.value (s.fpOperand e.2 ft))
        s.fpFinish r.1 (State.fpStore e.2.wide fd r.2) := by
  rw [State.fpArith2, fpStart_format h1 he, (fpFormat_of_mem he).left]
  dsimp only
  rw [Bool.and_or_distrib_left, Bool.and_or_distrib_left, wide_oddFpr hfs, wide_oddFpr hft, wide_oddFpr hfd]
  rfl

theorem exec_movFmt : exec (.movFmt e.1 fs fd) s =
    s.fpFinish 0 (State.fpStore e.2.wide fd (BitVec.ofNat 64 (s.fpOperand e.2 fs))) := by
  show execMovFmt e.1 fs fd s = _
  rw [execMovFmt, fpStart_format h1 he, (fpFormat_of_mem he).left]
  dsimp only
  rw [Bool.and_or_distrib_left, wide_oddFpr hfs, wide_oddFpr hfd]
  rfl

end

end

/-! ### Patterns (47_fpu_state_formats R565) -/

section
variable (f : FpFmt) (v : Nat)

/-- A pattern without its sign: the exponent field above the fraction field. -/
theorem fields_eq_mod : f.expField v * 2 ^ f.fbits + f.fracField v = v % 2 ^ (f.ebits + f.fbits) := by
  rw [FpFmt.expField, FpFmt.fracField, Nat.add_comm f.ebits, Nat.pow_add, Nat.mod_mul, Nat.add_comm, Nat.mul_comm]

theorem pack_fields (sign : Bool) : f.pack sign (f.expField v) (f.fracField v) =
    BitVec.ofNat 64 ((if sign then 2 ^ (f.ebits + f.fbits) else 0) + v % 2 ^ (f.ebits + f.fbits)) := by
  rw [FpFmt.pack, Nat.add_assoc, fields_eq_mod]

/-- The significand of a finite pattern, hidden bit included. -/
def signif : Nat := if f.expField v = 0 then f.fracField v else 2 ^ f.fbits + f.fracField v

/-- The exponent of the lowest bit of a finite pattern. -/
def lowExp : Int := if f.expField v = 0 then f.emin - f.fbits else (f.expField v : Int) - f.emax - f.fbits

theorem value_fin (h : f.expField v ≠ 2 ^ f.ebits - 1) : f.value v = .fin (f.signBit v) (signif f v) (lowExp f v) := by
  unfold FpFmt.value signif lowExp
  dsimp only
  rw [if_neg h]
  split <;> rfl

theorem value_inf (h : f.expField v = 2 ^ f.ebits - 1) (hm : f.fracField v = 0) : f.value v = .inf (f.signBit v) :=
  (if_pos h).trans (if_pos hm)

theorem value_nan (h : f.expField v = 2 ^ f.ebits - 1) (hm : f.fracField v ≠ 0) :
    f.value v = .nan (f.fracField v / 2 ^ (f.fbits - 1) == 1) := (if_pos h).trans (if_neg hm)

theorem value_isNan : (f.value v).isNan = true ↔ f.expField v = 2 ^ f.ebits - 1 ∧ f.fracField v ≠ 0 := by
  by_cases he : f.expField v = 2 ^ f.ebits - 1
  · by_cases hm : f.fracField v = 0
    · simp [value_inf f v he hm, FpVal.isNan, hm]
    · simp [value_nan f v he hm, FpVal.isNan, he, hm]
  · simp [value_fin f v he, FpVal.isNan, he]

theorem screened_of_number (hnan : (f.value v).isNan = false) (hden : f.denormal v = false) :
    f.screened v = false := by
  rw [FpFmt.screened, hden, Bool.false_or, beq_eq_false_iff_ne]
  intro h
  rw [h] at hnan
  exact absurd hnan (by decide)

end

/-- Adding the top bit inverts it. -/
theorem invertTop {a top : Nat} (h : a < 2 * top) :
    (a + top) % (2 * top) = (if !(a / top % 2 == 1) then top else 0) + a % top := by
  have hdiv : a / top < 2 := Nat.div_lt_of_lt_mul (by omega)
  have hsplit := Nat.div_add_mod a top
  obtain h0 | h1 : a / top = 0 ∨ a / top = 1 := by generalize a / top = q at hdiv; omega
  · rw [h0] at hsplit ⊢
    have hlt : a < top := by simpa [Nat.div_eq_zero_iff, show top ≠ 0 by omega] using h0
    rw [Nat.mod_eq_of_lt (by omega), Nat.mod_eq_of_lt hlt]
    simp [Nat.add_comm]
  · rw [h1] at hsplit ⊢
    have hge : (a + top) % (2 * top) = a + top - 2 * top := by
      rw [Nat.mod_eq_sub_mod (by omega), Nat.mod_eq_of_lt (by omega)]
    rw [hge]
    simp
    omega

section
variable {s : State} {e : BitVec 5 × FpFmt}

/-- An operand is a pattern of its format. -/
theorem fpOperand_lt (he : e ∈ fpFormats) (n : Reg) : s.fpOperand e.2 n < 2 * 2 ^ (e.2.ebits + e.2.fbits) := by
  rw [State.fpOperand]
  simp only [fpFormats, List.mem_cons, List.not_mem_nil, or_false] at he
  obtain rfl | rfl := he
  · exact (s.fpr32 n).isLt
  · exact (s.fpr64 n).isLt

theorem exec_absFmt (s : State) (fmt : BitVec 5) (fs fd : Reg) :
    exec (.absFmt fmt fs fd) s = s.fpArith1 fmt fs fd fun f q a => f.changeSign q a false := rfl

theorem exec_negFmt (s : State) (fmt : BitVec 5) (fs fd : Reg) :
    exec (.negFmt fmt fs fd) s = s.fpArith1 fmt fs fd fun f q a => f.changeSign q a (!f.signBit a) := rfl

/-- A change of sign of a number gives its magnitude field with the new sign. -/
theorem completes_changeSign {i : Instr} {fs fd : Reg} {sign : Bool} {op : FpFmt → DWord → Nat → BitVec 6 × DWord}
    (h1 : s.copUsable 1 = true) (he : e ∈ fpFormats) (hfs : s.holds e.2 fs) (hfd : s.holds e.2 fd)
    (hnan : (e.2.value (s.fpOperand e.2 fs)).isNan = false) (hden : e.2.denormal (s.fpOperand e.2 fs) = false)
    (h : exec i s = s.fpArith1 e.1 fs fd op)
    (hop : op e.2 (s.qnan e.2) (s.fpOperand e.2 fs) = e.2.changeSign (s.qnan e.2) (s.fpOperand e.2 fs) sign) :
    s.completes i (s.WroteFp · e.2.wide fd ((if sign then 2 ^ (e.2.ebits + e.2.fbits) else 0) +
      s.fpOperand e.2 fs % 2 ^ (e.2.ebits + e.2.fbits)) 0) := by
  rw [fpArith1_eq h1 he hfs hfd, screened_of_number e.2 _ hnan hden, hop, FpFmt.changeSign, hnan, pack_fields] at h
  exact completes_fpFinish h (fpTraps_none _) rfl

/-- Settles O46: the three moves store the operand's magnitude field with a sign of their own, without a condition. -/
theorem fpSignMoves : Obligations.FpSignMoves := by
  intro s fs fd h1 e he hfs hfd
  dsimp only
  have hlt := fpOperand_lt (s := s) he fs
  have htop : e.2.width - 1 = e.2.ebits + e.2.fbits := rfl
  have hsign : e.2.signBit (s.fpOperand e.2 fs) = (s.fpOperand e.2 fs / 2 ^ (e.2.ebits + e.2.fbits) % 2 == 1) := rfl
  rw [htop]
  refine ⟨completes_fpFinish (exec_movFmt h1 he hfs hfd) (fpTraps_none _) rfl, fun hnan hden => ⟨?abs, ?neg⟩⟩
  case abs =>
    have h := completes_changeSign (sign := false) h1 he hfs hfd hnan hden (exec_absFmt s e.1 fs fd) rfl
    rwa [if_neg Bool.false_ne_true, Nat.zero_add] at h
  case neg =>
    have h := completes_changeSign h1 he hfs hfd hnan hden (exec_negFmt s e.1 fs fd) rfl
    have hbits := invertTop hlt
    rw [← hsign] at hbits
    rwa [← hbits] at h

end

end Sys2Proof.Proofs

/-! ## Proofs: the compare (49_fpu_arith_convert_compare R670; O53) -/

namespace Sys2Proof.Proofs
open Sys2Proof.Machine

/-- A magnitude with a sign. -/
def signedMag (s : Bool) (n : Nat) : Int := if s then -(n : Int) else n

/-- A strictly increasing map of magnitudes keeps the order of signed ones. -/
theorem signedMag_lt_iff {g : Nat → Nat} (hg : StrictMono g) (h0 : g 0 = 0) (s s' : Bool) (m m' : Nat) :
    signedMag s (g m) < signedMag s' (g m') ↔ signedMag s m < signedMag s' m' := by
  have hlt : ∀ {a b : Nat}, g a < g b ↔ a < b := hg.lt_iff_lt
  have hpos : ∀ a, 0 < g a ↔ 0 < a := fun a => by
    conv_lhs => rw [← h0]
    exact hlt
  have hm := hpos m
  have hm' := hpos m'
  cases s <;> cases s' <;> simp only [signedMag, Bool.false_eq_true, if_true, if_false]
  · exact_mod_cast hlt
  · omega
  · omega
  · rw [neg_lt_neg_iff, neg_lt_neg_iff]
    exact_mod_cast hlt

section
variable (f : FpFmt)

/-! ### Magnitudes -/

/-- The number of units 2^(Emin - fraction width) that a magnitude field stands for. -/
def weight (m : Nat) : Nat :=
  if m / 2 ^ f.fbits = 0 then m % 2 ^ f.fbits else (2 ^ f.fbits + m % 2 ^ f.fbits) * 2 ^ (m / 2 ^ f.fbits - 1)

theorem weight_zero : weight f 0 = 0 := by simp [weight]

/-- A larger exponent field outweighs every fraction field. -/
theorem weight_lt (m : Nat) : weight f m < 2 ^ f.fbits * 2 ^ (m / 2 ^ f.fbits) := by
  have hfrac : m % 2 ^ f.fbits < 2 ^ f.fbits := Nat.mod_lt _ (Nat.two_pow_pos _)
  rw [weight]
  split
  next h => rwa [h, Nat.pow_zero, Nat.mul_one]
  next h =>
    calc (2 ^ f.fbits + m % 2 ^ f.fbits) * 2 ^ (m / 2 ^ f.fbits - 1)
        < (2 ^ f.fbits * 2) * 2 ^ (m / 2 ^ f.fbits - 1) := Nat.mul_lt_mul_of_pos_right (by omega) (Nat.two_pow_pos _)
      _ = 2 ^ f.fbits * 2 ^ (m / 2 ^ f.fbits) := by
        rw [Nat.mul_assoc, ← Nat.pow_succ', Nat.succ_eq_add_one, Nat.sub_one_add_one h]

theorem le_weight {m : Nat} (h : m / 2 ^ f.fbits ≠ 0) : 2 ^ f.fbits * 2 ^ (m / 2 ^ f.fbits - 1) ≤ weight f m := by
  rw [weight, if_neg h]
  exact Nat.mul_le_mul_right _ (Nat.le_add_right _ _)

theorem weight_strictMono : StrictMono (weight f) := by
  intro m m' h
  obtain hexp | hexp := Nat.lt_or_eq_of_le (Nat.div_le_div_right (c := 2 ^ f.fbits) h.le)
  · calc weight f m < 2 ^ f.fbits * 2 ^ (m / 2 ^ f.fbits) := weight_lt f m
      _ ≤ 2 ^ f.fbits * 2 ^ (m' / 2 ^ f.fbits - 1) :=
        Nat.mul_le_mul_left _ (Nat.pow_le_pow_right (by decide) (Nat.le_sub_one_of_lt hexp))
      _ ≤ weight f m' := le_weight f (Nat.ne_zero_of_lt hexp)
  · have hfrac : m % 2 ^ f.fbits < m' % 2 ^ f.fbits := by
      have hm := Nat.div_add_mod m (2 ^ f.fbits)
      have hm' := Nat.div_add_mod m' (2 ^ f.fbits)
      rw [hexp] at hm
      omega
    rw [weight, weight, hexp]
    split
    · exact hfrac
    · exact Nat.mul_lt_mul_of_pos_right (by omega) (Nat.two_pow_pos _)

section
variable (v : Nat)

/-- The magnitude field of a pattern. -/
def magField : Nat := v % 2 ^ (f.ebits + f.fbits)

theorem orderKey_eq : f.orderKey v = signedMag (f.signBit v) (magField f v) := rfl

theorem magField_div : magField f v / 2 ^ f.fbits = f.expField v := by
  rw [magField, ← fields_eq_mod, FpFmt.fracField, Nat.mul_comm, Nat.mul_add_div (Nat.two_pow_pos _),
    Nat.div_eq_of_lt (Nat.mod_lt _ (Nat.two_pow_pos _)), Nat.add_zero]

theorem magField_mod : magField f v % 2 ^ f.fbits = f.fracField v := by
  rw [magField, ← fields_eq_mod, FpFmt.fracField, Nat.mul_comm, Nat.mul_add_mod, Nat.mod_mod]

theorem rat_fin (s : Bool) (m : Nat) (e : Int) : (FpVal.fin s m e).rat = (signedMag s m : ℚ) * (2 : ℚ) ^ e := by
  cases s <;> simp [FpVal.rat, signedMag]

/-- The magnitude of a finite pattern, in units of the smallest. -/
theorem signif_weight : (signif f v : ℚ) * (2 : ℚ) ^ lowExp f v =
    (weight f (magField f v) : ℚ) * (2 : ℚ) ^ (f.emin - f.fbits : Int) := by
  rw [signif, lowExp, weight, magField_div, magField_mod]
  by_cases h : f.expField v = 0
  · simp only [h, if_true]
  · have hexp : ((f.expField v : Int) - f.emax - f.fbits) = ((f.expField v - 1 : Nat) : Int) + (f.emin - f.fbits) := by
      rw [FpFmt.emin]
      omega
    simp only [h, if_false]
    rw [hexp, zpow_add₀ two_ne_zero, zpow_natCast]
    push_cast
    ring

/-- A finite pattern stands for its signed weight. -/
theorem rat_value (h : f.expField v ≠ 2 ^ f.ebits - 1) : (f.value v).rat =
    (signedMag (f.signBit v) (weight f (magField f v)) : ℚ) * (2 : ℚ) ^ (f.emin - f.fbits : Int) := by
  have hw := signif_weight f v
  rw [value_fin f v h, rat_fin]
  cases f.signBit v
  · exact hw
  · simp only [signedMag, if_true, Int.cast_neg, Int.cast_natCast, neg_mul, hw]

/-- The magnitude field of an infinity, above that of every number. -/
def infField : Nat := (2 ^ f.ebits - 1) * 2 ^ f.fbits

theorem magField_inf (h : f.expField v = 2 ^ f.ebits - 1) (hm : f.fracField v = 0) : magField f v = infField f := by
  rw [magField, ← fields_eq_mod, h, hm, Nat.add_zero, infField]

theorem magField_lt_inf (h : f.expField v ≠ 2 ^ f.ebits - 1) : magField f v < infField f := by
  have hlt : f.expField v < 2 ^ f.ebits := Nat.mod_lt _ (Nat.two_pow_pos _)
  rw [infField, ← Nat.div_lt_iff_lt_mul (Nat.two_pow_pos _), magField_div]
  omega

end

/-! ### The order of patterns -/

section
variable {f} {a b : Nat}

theorem rat_lt_iff (ha : f.expField a ≠ 2 ^ f.ebits - 1) (hb : f.expField b ≠ 2 ^ f.ebits - 1) :
    (f.value a).rat < (f.value b).rat ↔ f.orderKey a < f.orderKey b := by
  have hunit : (0 : ℚ) < (2 : ℚ) ^ (f.emin - f.fbits : Int) := zpow_pos two_pos _
  rw [rat_value f a ha, rat_value f b hb, mul_lt_mul_iff_left₀ hunit, Int.cast_lt,
    signedMag_lt_iff (weight_strictMono f) (weight_zero f), orderKey_eq, orderKey_eq]

theorem rat_eq_iff (ha : f.expField a ≠ 2 ^ f.ebits - 1) (hb : f.expField b ≠ 2 ^ f.ebits - 1) :
    (f.value a).rat = (f.value b).rat ↔ f.orderKey a = f.orderKey b := by
  rw [eq_iff_le_not_lt, eq_iff_le_not_lt, ← not_lt, ← not_lt, rat_lt_iff ha hb, rat_lt_iff hb ha]

/-- A pattern that is no NaN is an infinity or a number. -/
theorem inf_or_fin (h : (f.value a).isNan = false) :
    (f.value a = .inf (f.signBit a) ∧ f.orderKey a = signedMag (f.signBit a) (infField f)) ∨
    f.expField a ≠ 2 ^ f.ebits - 1 := by
  by_cases he : f.expField a = 2 ^ f.ebits - 1
  · have hm : f.fracField a = 0 := by
      by_contra hm
      exact absurd ((value_isNan f a).mpr ⟨he, hm⟩) (Bool.eq_false_iff.mp h)
    exact .inl ⟨value_inf f a he hm, by rw [orderKey_eq, magField_inf f a he hm]⟩
  · exact .inr he

theorem orderKey_bounds (h : f.expField a ≠ 2 ^ f.ebits - 1) :
    -(infField f : Int) < f.orderKey a ∧ f.orderKey a < infField f := by
  have hlt := magField_lt_inf f a h
  rw [orderKey_eq, signedMag]
  split <;> omega

theorem less_same_iff (hpos : 0 < infField f) (ha : (f.value a).isNan = false) (hb : (f.value b).isNan = false) :
    ((f.value a).less (f.value b) ↔ f.orderKey a < f.orderKey b) ∧
    ((f.value a).same (f.value b) ↔ f.orderKey a = f.orderKey b) := by
  obtain ⟨hva, hka⟩ | hea := inf_or_fin ha <;> obtain ⟨hvb, hkb⟩ | heb := inf_or_fin hb
  · rw [hva, hvb, hka, hkb]
    cases f.signBit a <;> cases f.signBit b <;> simp [FpVal.less, FpVal.same, signedMag] <;> omega
  · obtain ⟨hlo, hhi⟩ := orderKey_bounds heb
    rw [hva, hka, value_fin f b heb]
    cases f.signBit a <;> simp [FpVal.less, FpVal.same, signedMag] <;> omega
  · obtain ⟨hlo, hhi⟩ := orderKey_bounds hea
    rw [hvb, hkb, value_fin f a hea]
    cases f.signBit b <;> simp [FpVal.less, FpVal.same, signedMag] <;> omega
  · rw [← rat_lt_iff hea heb, ← rat_eq_iff hea heb, value_fin f a hea, value_fin f b heb]
    exact ⟨Iff.rfl, Iff.rfl⟩

end

end

/-! ### C.cond.fmt -/

section
variable {s : State} {i : Instr} {c : Bool} {x : BitVec 6}

/-- What a compare leaves: its condition, its conditions recorded, the rest of FCR31 as before. -/
def Compared (s : State) (c : Bool) (x : BitVec 6) (t : State) : Prop :=
  t.fcr31.getLsbD 23 = c ∧ fcrCause t.fcr31 = x ∧ fcrFlags t.fcr31 = fcrFlags s.fcr31 ||| x.setWidth 5 ∧
  t.fgr = s.fgr ∧ s.OnlyFpu t ∧ s.Continued t ∧
  ∀ k < 32, k < 2 ∨ 6 < k ∧ k < 12 ∨ 17 < k ∧ k ≠ 23 → t.fcr31.getLsbD k = s.fcr31.getLsbD k

theorem completes_compare (h : exec i s = s.fpFinish x (State.setCond c))
    (ht : fpTraps x (fcrEnables s.fcrSeen) = false) : s.completes i (Compared s c x) := by
  have hrun : exec i s = (State.setCond c { s with fcr31 := recorded s.fcr31 x }).done := by
    rw [h, State.fpFinish]
    dsimp only
    rw [ht]
    rfl
  have honly : FpuOnly s (State.setCond c { s with fcr31 := recorded s.fcr31 x }) := rfl
  have hfcr : (State.setCond c { s with fcr31 := recorded s.fcr31 x }).retire.fcr31 = putC (recorded s.fcr31 x) c :=
    retire_fcr31 _
  have hbit : ∀ k, (putC (recorded s.fcr31 x) c).getLsbD k = if k = 23 then c else (recorded s.fcr31 x).getLsbD k :=
    getLsbD_putBit _ (by decide) c
  obtain ⟨hcause, hflags⟩ := recorded_fields s.fcr31 x (g := putC (recorded s.fcr31 x) c) fun k hk => by
    rw [hbit, if_neg (by omega)]
  refine ⟨_, hrun, ?_, by rw [hfcr, hcause], by rw [hfcr, hflags], retire_fgr _, honly.onlyFpu, honly.continued,
    fun k hk hout => ?_⟩
  · rw [hfcr, hbit, if_pos rfl]
  · rw [hfcr, hbit, if_neg (by omega), recorded_control _ _ hk (by omega)]

theorem exec_cCondFmt {e : BitVec 5 × FpFmt} {fs ft : Reg} (h1 : s.copUsable 1 = true) (he : e ∈ fpFormats)
    (hfs : s.holds e.2 fs) (hft : s.holds e.2 ft) (cond : BitVec 4) : exec (.cCondFmt e.1 ft fs cond) s =
    s.fpFinish (e.2.compare cond (s.fpOperand e.2 fs) (s.fpOperand e.2 ft)).1
      (State.setCond (e.2.compare cond (s.fpOperand e.2 fs) (s.fpOperand e.2 ft)).2) := by
  show execCCondFmt e.1 ft fs cond s = _
  rw [execCCondFmt, fpStart_format h1 he, (fpFormat_of_mem he).left]
  dsimp only
  rw [Bool.and_or_distrib_left, wide_oddFpr hfs, wide_oddFpr hft]
  rfl

theorem compare_ordered {f : FpFmt} {a b : Nat} (cond : BitVec 4) (ha : (f.value a).isNan = false)
    (hb : (f.value b).isNan = false) : f.compare cond a b =
    (0, (cond.getLsbD 2 && decide (f.orderKey a < f.orderKey b))
      || (cond.getLsbD 1 && decide (f.orderKey a = f.orderKey b))) := by
  rw [FpFmt.compare, ha, hb]
  rfl

theorem compare_unordered {f : FpFmt} {a b : Nat} (cond : BitVec 4)
    (h : (f.value a).isNan = true ∨ (f.value b).isNan = true) :
    f.compare cond a b = (if cond.getLsbD 3 then fpV else 0, cond.getLsbD 0) :=
  if_pos (by simpa using h)

/-- Settles O53: patterns compare as their values do, by exponent and then by fraction; a NaN is unordered. -/
theorem fpCompare : Obligations.FpCompare := by
  intro s fs ft cond h1 e he hfs hft
  have hrun := exec_cCondFmt h1 he hfs hft cond
  have hpos : 0 < infField e.2 := by
    have hformats : ∀ e ∈ fpFormats, 0 < infField e.2 := by decide
    exact hformats e he
  refine ⟨fun ha hb => ?ordered, fun hnan => ?unordered⟩
  case ordered =>
    obtain ⟨hless, hsame⟩ := less_same_iff hpos ha hb
    rw [compare_ordered cond ha hb] at hrun
    obtain ⟨t, ht, hset⟩ := completes_compare hrun (fpTraps_none _)
    refine ⟨t, ht, _, hset, ?_⟩
    rw [hless, hsame]
    simp
  case unordered =>
    rw [compare_unordered cond hnan] at hrun
    refine ⟨fun h3 => ?_, fun h3 h4 => ?_, fun h3 h4 => ?_⟩ <;> rw [h3] at hrun
    · exact completes_compare hrun (fpTraps_none _)
    · exact completes_compare hrun ((fpTraps_invalid _).trans h4)
    · exact fpFinish_traps hrun ((fpTraps_invalid _).trans h4)

end

end Sys2Proof.Proofs

/-! ## Proofs: the conversions to integers (49_fpu_arith_convert_compare R649 to R657, R662, R663; O51) -/

namespace Sys2Proof.Proofs
open Sys2Proof.Machine

/-! ### Rounding to an integer (47_fpu_state_formats R571) -/

/-- The magnitude `w` is the magnitude `y` rounded in a mode, for a value of a sign. -/
def RoundsMag (rm : BitVec 2) (s : Bool) (y : ℚ) (w : Int) : Prop :=
  if rm = 0 then |(w : ℚ) - y| ≤ 1 / 2 ∧ (|(w : ℚ) - y| = 1 / 2 → w % 2 = 0)
  else if rm = 1 ∨ rm = 2 ∧ s = true ∨ rm = 3 ∧ s = false then (w : ℚ) ≤ y ∧ y < (w : ℚ) + 1
  else y ≤ (w : ℚ) ∧ (w : ℚ) < y + 1

/-- The integer with a sign put before it. -/
def withSign (s : Bool) (w : Int) : Int := if s then -w else w

theorem withSign_withSign (s : Bool) (w : Int) : withSign s (withSign s w) = w := by
  cases s <;> simp [withSign]

theorem signedMag_eq_withSign (s : Bool) (n : Nat) : signedMag s n = withSign s n := rfl

section
variable {rm : BitVec 2} {s : Bool} {y : ℚ} {w w' z : Int}

/-- Two roundings of one number are equal. -/
theorem roundsMag_unique (h : RoundsMag rm s y w) (h' : RoundsMag rm s y w') : w = w' := by
  have close : ∀ {a b : Int}, (a : ℚ) < b + 1 → a ≤ b := fun h => Int.lt_add_one_iff.mp (by exact_mod_cast h)
  unfold RoundsMag at h h'
  split at h
  next hrm =>
    rw [if_pos hrm] at h'
    obtain ⟨hnear, htie⟩ := h
    obtain ⟨hnear', htie'⟩ := h'
    have hb := abs_le.mp hnear
    have hb' := abs_le.mp hnear'
    have hle : w ≤ w' + 1 := by exact_mod_cast (show (w : ℚ) ≤ w' + 1 by linarith)
    have hge : w' ≤ w + 1 := by exact_mod_cast (show (w' : ℚ) ≤ w + 1 by linarith)
    -- Two different nearest integers are neighbours, both at a tie, so both even.
    have tie : ∀ {a b : Int}, a = b + 1 → (a : ℚ) - y ≤ 1 / 2 → -(1 / 2) ≤ (b : ℚ) - y →
        |(a : ℚ) - y| = 1 / 2 ∧ |(b : ℚ) - y| = 1 / 2 := fun {a b} hab ha hb => by
      subst hab
      push_cast at ha ⊢
      have hy : y = (b : ℚ) + 1 / 2 := by linarith
      rw [hy, abs_of_nonneg (by linarith), abs_of_nonpos (by linarith)]
      constructor <;> linarith
    obtain heq | hgt | hlt : w = w' ∨ w = w' + 1 ∨ w' = w + 1 := by omega
    · exact heq
    · obtain ⟨ht, ht'⟩ := tie hgt hb.right hb'.left
      have := htie ht
      have := htie' ht'
      omega
    · obtain ⟨ht', ht⟩ := tie hlt hb'.right hb.left
      have := htie ht
      have := htie' ht'
      omega
  next hrm =>
    rw [if_neg hrm] at h'
    split at h
    next htoward =>
      rw [if_pos htoward] at h'
      exact Int.le_antisymm (close (h.left.trans_lt h'.right)) (close (h'.left.trans_lt h.right))
    next haway =>
      rw [if_neg haway] at h'
      exact Int.le_antisymm (close (h.right.trans_le (by linarith [h'.left])))
        (close (h'.right.trans_le (by linarith [h.left])))

/-- The rounding modes, seen from the magnitude. -/
theorem roundsMag_of_roundsTo (hy : 0 ≤ y) (h : roundsTo rm (if s then -y else y) z) :
    RoundsMag rm s y (withSign s z) := by
  have habs : |((withSign s z : Int) : ℚ) - y| = |(z : ℚ) - (if s then -y else y)| := by
    cases s
    · rfl
    · rw [withSign, if_pos rfl, if_pos rfl, ← abs_neg]
      push_cast
      congr 1
      ring
  have hparity : withSign s z % 2 = z % 2 := by
    cases s
    · rfl
    · rw [withSign, if_pos rfl]
      omega
  unfold roundsTo at h
  unfold RoundsMag
  split at h
  next hrm => rwa [if_pos hrm, habs, hparity]
  next hrm0 =>
    rw [if_neg hrm0]
    split at h
    next hrm =>
      rw [if_pos (.inl hrm)]
      obtain ⟨hle, hlt, hsame⟩ := h
      have hax : |(if s then -y else y)| = y := by
        cases s <;> simp [abs_of_nonneg hy]
      have haw : |((withSign s z : Int) : ℚ)| = |(z : ℚ)| := by
        cases s <;> simp [withSign]
      have hprod : ((withSign s z : Int) : ℚ) * y = (z : ℚ) * (if s then -y else y) := by
        cases s <;> simp [withSign]
      rw [hax, ← haw] at hle hlt
      rw [← hprod] at hsame
      have hnonneg : (0 : ℚ) ≤ (withSign s z : Int) := by
        by_contra hneg
        push Not at hneg
        rw [abs_of_neg hneg] at hle
        nlinarith
      rw [abs_of_nonneg hnonneg] at hle hlt
      exact ⟨hle, by linarith⟩
    next hrm1 =>
      have hmodes : ∀ rm : BitVec 2, rm ≠ 0 → rm ≠ 1 → rm = 2 ∨ rm = 3 := by decide
      obtain rfl | rfl := hmodes rm hrm0 hrm1
      · cases s <;> simp [withSign] at h ⊢
        · exact h
        · constructor <;> linarith
      · cases s <;> simp [withSign] at h ⊢
        · exact h
        · constructor <;> linarith

end

section
variable (rm : BitVec 2) (s : Bool)

/-- The model's rounding of a significand is the rounding of its quotient. -/
theorem roundsMag_roundShift (m k : Nat) :
    RoundsMag rm s ((m : ℚ) / 2 ^ k) ((roundShift rm s m k false).1 : Int) := by
  obtain ⟨-, hnear, htoward, haway⟩ := fpRounding rm s m k
  have hu : (0 : ℚ) < 2 ^ k := by positivity
  generalize (roundShift rm s m k false).1 = q at hnear htoward haway
  unfold RoundsMag
  split
  next hrm =>
    obtain ⟨hlo, hhi, htie⟩ := hnear hrm
    have hlo' : (2 : ℚ) * (q * 2 ^ k) ≤ 2 * m + 2 ^ k := by exact_mod_cast hlo
    have hhi' : (2 : ℚ) * m ≤ 2 * (q * 2 ^ k) + 2 ^ k := by exact_mod_cast hhi
    have hdiff : ((q : Int) : ℚ) - m / 2 ^ k = (q * 2 ^ k - m) / 2 ^ k := by
      push_cast
      field_simp
    rw [hdiff, abs_div, abs_of_pos hu, div_le_iff₀ hu, div_eq_iff hu.ne']
    refine ⟨abs_le.mpr ⟨by linarith, by linarith⟩, fun h => ?_⟩
    have htie' : 2 * (q * 2 ^ k) = 2 * m + 2 ^ k ∨ 2 * m = 2 * (q * 2 ^ k) + 2 ^ k := by
      obtain h | h := (abs_eq (by positivity)).mp h
      · exact .inl (by exact_mod_cast (show (2 : ℚ) * (q * 2 ^ k) = 2 * m + 2 ^ k by linarith))
      · exact .inr (by exact_mod_cast (show (2 : ℚ) * m = 2 * (q * 2 ^ k) + 2 ^ k by linarith))
    have := htie htie'
    omega
  next hrm0 =>
    split
    next hrm =>
      obtain ⟨hlo, hhi⟩ := htoward hrm
      rw [le_div_iff₀ hu, div_lt_iff₀ hu]
      exact ⟨by exact_mod_cast hlo, by exact_mod_cast hhi⟩
    next hrm =>
      obtain ⟨hlo, hhi⟩ := haway (((rm_cases rm s).resolve_left hrm0).resolve_left hrm)
      rw [div_le_iff₀ hu, ← sub_lt_iff_lt_add, lt_div_iff₀ hu, sub_mul, one_mul]
      refine ⟨by exact_mod_cast hlo, ?_⟩
      have hhi' : (q : ℚ) * 2 ^ k < m + 2 ^ k := by exact_mod_cast hhi
      push_cast
      linarith

/-- A value whose low bit lies at 2^e or above is an integer with nothing to drop. -/
theorem roundToInt_eq (m : Nat) (e : Int) : roundToInt rm s m e =
    (signedMag s (roundShift rm s (m * 2 ^ e.toNat) (-e).toNat false).1,
      (roundShift rm s (m * 2 ^ e.toNat) (-e).toNat false).2) := by
  by_cases h : 0 ≤ e
  · have h0 : (-e).toNat = 0 := by omega
    have hexact : m * 2 ^ e.toNat % 2 ^ 0 = 0 := by rw [Nat.pow_zero, Nat.mod_one]
    rw [roundToInt, if_pos h, h0, roundShift_exact _ _ hexact, Nat.pow_zero, Nat.div_one]
    rfl
  · have h0 : e.toNat = 0 := by omega
    rw [roundToInt, if_neg h, h0, Nat.pow_zero, Nat.mul_one]
    rfl

theorem rat_quotient (m : Nat) (e : Int) : (FpVal.fin s m e).rat =
    if s then -(((m * 2 ^ e.toNat : Nat) : ℚ) / 2 ^ (-e).toNat)
    else ((m * 2 ^ e.toNat : Nat) : ℚ) / 2 ^ (-e).toNat := by
  have hpow : (m : ℚ) * 2 ^ e = ((m * 2 ^ e.toNat : Nat) : ℚ) / 2 ^ (-e).toNat := by
    have he : e = (e.toNat : Int) - ((-e).toNat : Int) := by omega
    conv_lhs => rw [he]
    rw [zpow_sub₀ two_ne_zero, zpow_natCast, zpow_natCast]
    push_cast
    ring
  rw [rat_fin, ← hpow]
  cases s <;> simp [signedMag]

/-- The conversion finds the rounded integer, and says whether it differs. -/
theorem roundToInt_of_roundsTo {m : Nat} {e z : Int} (h : roundsTo rm (FpVal.fin s m e).rat z) :
    (roundToInt rm s m e).1 = z ∧ ((roundToInt rm s m e).2 = false ↔ (z : ℚ) = (FpVal.fin s m e).rat) := by
  obtain ⟨hinexact, -, -, -⟩ := fpRounding rm s (m * 2 ^ e.toNat) (-e).toNat
  rw [rat_quotient] at h ⊢
  rw [roundToInt_eq]
  generalize m * 2 ^ e.toNat = n at h hinexact ⊢
  generalize (-e).toNat = k at h hinexact ⊢
  have hu : (2 : ℚ) ^ k ≠ 0 := by positivity
  have hmag := roundsMag_of_roundsTo (by positivity) h
  have hq := roundsMag_unique hmag (roundsMag_roundShift rm s n k)
  have hz : signedMag s (roundShift rm s n k false).1 = z := by
    rw [signedMag_eq_withSign, ← hq, withSign_withSign]
  refine ⟨hz, ?_⟩
  have hvalue : (z : ℚ) = (if s then -((n : ℚ) / 2 ^ k) else (n : ℚ) / 2 ^ k) ↔
      ((roundShift rm s n k false).1 : ℚ) = (n : ℚ) / 2 ^ k := by
    rw [← hz]
    cases s <;> simp [signedMag]
  rw [hvalue, ← Bool.not_eq_true, hinexact, not_not]
  constructor
  · intro h0
    rw [roundShift_exact _ _ h0, eq_div_iff hu]
    exact_mod_cast Nat.div_mul_cancel (Nat.dvd_of_mod_eq_zero h0)
  · intro heq
    rw [eq_div_iff hu] at heq
    have hmul : (roundShift rm s n k false).1 * 2 ^ k = n := by exact_mod_cast heq
    exact Nat.mod_eq_zero_of_dvd ⟨_, by rw [← hmul, Nat.mul_comm]⟩

/-! ### The conversions (49_fpu_arith_convert_compare R649) -/

/-- The result of a conversion that the format of the destination does not have. -/
def unfit (n : Nat) (invalid : Bool) : BitVec 6 × DWord :=
  (if invalid then fpV else fpE, BitVec.ofNat 64 (2 ^ (n - 1) - 1))

theorem toFixed_fin {n : Nat} (invalid : Bool) {m : Nat} {e z : Int} (h : roundsTo rm (FpVal.fin s m e).rat z) :
    (fits n z → toFixed n rm invalid (.fin s m e) =
      (if (z : ℚ) = (FpVal.fin s m e).rat then 0 else fpI, BitVec.ofInt 64 z)) ∧
    (¬ fits n z → toFixed n rm invalid (.fin s m e) = unfit n invalid) := by
  obtain ⟨hz, hexact⟩ := roundToInt_of_roundsTo rm s h
  have hdef : toFixed n rm invalid (.fin s m e) = if overflows n (roundToInt rm s m e).1 then unfit n invalid
      else (if (roundToInt rm s m e).2 then fpI else 0, BitVec.ofInt 64 (roundToInt rm s m e).1) := rfl
  rw [hdef, hz]
  refine ⟨fun hfits => ?_, fun hfits => if_pos (overflows_iff.mpr hfits)⟩
  rw [if_neg (fun ho => overflows_iff.mp ho hfits)]
  by_cases hx : (z : ℚ) = (FpVal.fin s m e).rat
  · rw [if_pos hx, hexact.mpr hx]
    rfl
  · rw [if_neg hx, if_pos (by simpa using mt hexact.mp hx)]

theorem toFixed_not_fin {n : Nat} (invalid : Bool) {a : FpVal} (h : a.isFin = false) :
    toFixed n rm invalid a = unfit n invalid := by
  cases a with
  | nan _ => rfl
  | inf _ => rfl
  | fin _ _ _ => exact absurd h (by simp [FpVal.isFin])

end

section
variable {s : State} {e : BitVec 5 × FpFmt} {fs fd : Reg}

theorem dword_eq_ofNat (v : DWord) : v = BitVec.ofNat 64 v.toNat := by rw [BitVec.ofNat_toNat, BitVec.setWidth_eq]

theorem low32_ofInt (z : Int) : low32 (BitVec.ofInt 64 z) = BitVec.ofInt 32 z := by
  apply BitVec.eq_of_toNat_eq
  rw [low32, BitVec.toNat_setWidth, BitVec.toNat_ofInt, BitVec.toNat_ofInt]
  omega

theorem wroteFp_word {t : State} {bits bits' : Nat} {x : BitVec 6} (h : s.WroteFp t false fd bits x)
    (hbits : BitVec.ofNat 32 bits = BitVec.ofNat 32 bits') : s.WroteFp t false fd bits' x :=
  { h with result := h.result.trans hbits }

/-- The ten conversions to integers with their modes: five to a word, five to a doubleword. -/
def toFixedForms (s : State) (long : Bool) (fmt : BitVec 5) (fs fd : Reg) : List (Instr × BitVec 2) :=
  if long then [(.roundLFmt fmt fs fd, 0), (.truncLFmt fmt fs fd, 1), (.ceilLFmt fmt fs fd, 2),
    (.floorLFmt fmt fs fd, 3), (.cvtLFmt fmt fs fd, fcrRM s.fcrSeen)]
  else [(.roundWFmt fmt fs fd, 0), (.truncWFmt fmt fs fd, 1), (.ceilWFmt fmt fs fd, 2),
    (.floorWFmt fmt fs fd, 3), (.cvtWFmt fmt fs fd, fcrRM s.fcrSeen)]

theorem exec_toFixed {long : Bool} {fmt : BitVec 5} {w : Instr × BitVec 2} (hw : w ∈ toFixedForms s long fmt fs fd) :
    exec w.1 s = s.fpToFixed long fmt fs fd w.2 := by
  cases long <;> simp only [toFixedForms, Bool.false_eq_true, if_true, if_false, List.mem_cons, List.not_mem_nil,
    or_false] at hw <;> obtain rfl | rfl | rfl | rfl | rfl := hw <;> rfl

/-- The destination of a conversion: a doubleword needs 64-bit operations and a register for it. -/
def LongOk (s : State) (long : Bool) (fd : Reg) : Prop := long = true → s.ops64Enabled = true ∧ s.holds fmtD fd

theorem fpToFixed_eq (h1 : s.copUsable 1 = true) (he : e ∈ fpFormats) (hfs : s.holds e.2 fs) {long : Bool}
    (hlong : LongOk s long fd) (rm : BitVec 2) : s.fpToFixed long e.1 fs fd rm =
    if e.2.denormal (s.fpOperand e.2 fs) then s.fpUnimplemented
    else
      let r := toFixed (if long then 64 else 32) rm s.cfg.fixedConvertInvalid (e.2.value (s.fpOperand e.2 fs))
      s.fpFinish r.1 (State.fpStore long fd r.2) := by
  obtain ⟨hformat, h21⟩ := fpFormat_of_mem he
  have hodd : (long && s.oddFpr fd) = false := by
    cases long with
    | false => rfl
    | true =>
      obtain ⟨-, hfd⟩ := hlong rfl
      exact wide_oddFpr hfd
  rw [State.fpToFixed, fpStart_usable h1 fun h => ?_, hformat]
  · dsimp only
    rw [wide_oddFpr hfs, hodd]
    rfl
  · rw [h21, Bool.or_false] at h
    exact (hlong h).left

/-- A conversion of a number to an integer that fits. -/
theorem completes_toFixed (h1 : s.copUsable 1 = true) (hen : (fcrEnables s.fcrSeen).getLsbD 0 = false)
    (he : e ∈ fpFormats) (hfs : s.holds e.2 fs) (hplain : e.2.plainNumber (s.fpOperand e.2 fs)) {long : Bool}
    (hlong : LongOk s long fd) {z : Int} (hfits : fits (if long then 64 else 32) z) {w : Instr × BitVec 2}
    (hw : w ∈ toFixedForms s long e.1 fs fd) (hz : roundsTo w.2 (e.2.value (s.fpOperand e.2 fs)).rat z) :
    s.completes w.1 (s.WroteFp · long fd (BitVec.ofInt 64 z).toNat
      (if (z : ℚ) = (e.2.value (s.fpOperand e.2 fs)).rat then 0 else 1)) := by
  obtain ⟨-, hfin, hden⟩ := hplain
  have hrun := exec_toFixed hw
  rw [fpToFixed_eq h1 he hfs hlong, hden] at hrun
  cases ha : e.2.value (s.fpOperand e.2 fs) with
  | nan _ => rw [ha] at hfin; exact absurd hfin Bool.false_ne_true
  | inf _ => rw [ha] at hfin; exact absurd hfin Bool.false_ne_true
  | fin sgn m ex =>
    rw [ha] at hz hrun
    obtain ⟨hval, -⟩ := toFixed_fin w.2 sgn s.cfg.fixedConvertInvalid hz
    rw [hval hfits] at hrun
    refine completes_fpFinish hrun ?_ (dword_eq_ofNat _)
    split
    · exact fpTraps_none _
    · exact (fpTraps_inexact _).trans hen

/-- Settles O51: the conversions round by `roundShift`, which finds the one integer that the mode names. -/
theorem fpConvertToFixed : Obligations.FpConvertToFixed := by
  intro s fs fd z h1 hen e he hfs
  dsimp only
  intro hplain
  refine ⟨fun hfits w hw hz => ?word, fun hfits hfd h64 w hw hz => ?dword⟩
  case word =>
    obtain ⟨t, ht, hwrote⟩ := completes_toFixed h1 hen he hfs hplain (long := false)
      (fun h => absurd h Bool.false_ne_true) hfits hw hz
    refine ⟨t, ht, wroteFp_word hwrote ?_⟩
    rw [BitVec.ofNat_toNat, BitVec.ofNat_toNat, BitVec.setWidth_eq]
    exact low32_ofInt z
  case dword => exact completes_toFixed h1 hen he hfs hplain (long := true) (fun _ => ⟨h64, hfd⟩) hfits hw hz

end

end Sys2Proof.Proofs

/-! ## Proofs: operands and formats the arithmetic does not handle (47_fpu_state_formats R576, R580, R582,
49_fpu_arith_convert_compare R630, R649; O54) -/

namespace Sys2Proof.Proofs
open Sys2Proof.Machine

section
variable {s : State} {i : Instr} {e : BitVec 5 × FpFmt} {fs ft fd : Reg} {wide : Bool} {bits : Nat}

/-- An invalid operation: the trap if it is enabled, else `bits` as the result. -/
def InvalidGives (s : State) (fd : Reg) (i : Instr) (wide : Bool) (bits : Nat) : Prop :=
  if (fcrEnables s.fcrSeen).getLsbD 4 = true then s.fpTrapped i fpV else s.completes i (s.WroteFp · wide fd bits fpV)

theorem invalidGives_qnan {q : DWord} (h : exec i s = s.fpFinish fpV (State.fpStore wide fd q)) :
    InvalidGives s fd i wide q.toNat := invalid_fpFinish h (dword_eq_ofNat q)

/-! ### Two operands -/

/-- An operation that answers a NaN with Invalid and the default quiet NaN. -/
def InvalidOnNan (op : FpMode → DWord → FpVal → FpVal → BitVec 6 × DWord) : Prop :=
  ∀ c q a b, a.isNan = true ∨ b.isNan = true → op c q a b = (fpV, q)

theorem invalidOnNan_of {op : FpMode → DWord → FpVal → FpVal → BitVec 6 × DWord}
    (hleft : ∀ c q k b, op c q (.nan k) b = (fpV, q)) (hright : ∀ c q a k, op c q a (.nan k) = (fpV, q)) :
    InvalidOnNan op := by
  rintro c q a b (h | h)
  · cases a with
    | nan k => exact hleft c q k b
    | inf _ => exact absurd h Bool.false_ne_true
    | fin _ _ _ => exact absurd h Bool.false_ne_true
  · cases b with
    | nan k => exact hright c q a k
    | inf _ => exact absurd h Bool.false_ne_true
    | fin _ _ _ => exact absurd h Bool.false_ne_true

section
variable (f : FpFmt)

theorem invalidOnNan_add : InvalidOnNan f.add :=
  invalidOnNan_of (fun _ _ _ _ => rfl) fun _ _ a _ => by cases a <;> rfl

theorem invalidOnNan_sub : InvalidOnNan f.sub :=
  invalidOnNan_of (fun _ _ _ _ => rfl) fun _ _ a _ => by cases a <;> rfl

theorem invalidOnNan_mul : InvalidOnNan f.mul :=
  invalidOnNan_of (fun _ _ _ _ => rfl) fun _ _ a _ => by cases a <;> rfl

theorem invalidOnNan_div : InvalidOnNan f.div :=
  invalidOnNan_of (fun _ _ _ _ => rfl) fun _ _ a _ => by cases a <;> rfl

/-- A signaling NaN passes the screen of R580. -/
theorem not_screened_of_signaling (hf : 0 < f.ebits) {v : Nat} (h : f.value v = .nan true) : f.screened v = false := by
  have hnan : (f.value v).isNan = true := by rw [h]; rfl
  obtain ⟨hexp, -⟩ := (value_isNan f v).mp hnan
  have hpos : f.expField v ≠ 0 := by
    rw [hexp, Nat.sub_ne_zero_iff_lt]
    exact Nat.one_lt_two_pow hf.ne'
  rw [FpFmt.screened, FpFmt.denormal, h, beq_eq_false_iff_ne.mpr hpos]
  rfl

end

theorem ebits_pos (he : e ∈ fpFormats) : 0 < e.2.ebits := by
  have hformats : ∀ e ∈ fpFormats, 0 < e.2.ebits := by decide
  exact hformats e he

theorem fpArith2_special {op : FpFmt → FpMode → DWord → FpVal → FpVal → BitVec 6 × DWord}
    (h1 : s.copUsable 1 = true) (he : e ∈ fpFormats) (hfs : s.holds e.2 fs) (hft : s.holds e.2 ft)
    (hfd : s.holds e.2 fd) (hop : InvalidOnNan (op e.2)) (h : exec i s = s.fpArith2 e.1 ft fs fd op) :
    (e.2.screened (s.fpOperand e.2 fs) = true ∨ e.2.screened (s.fpOperand e.2 ft) = true → s.fpTrapped i fpE) ∧
    (e.2.screened (s.fpOperand e.2 fs) = false → e.2.screened (s.fpOperand e.2 ft) = false →
      e.2.value (s.fpOperand e.2 fs) = .nan true ∨ e.2.value (s.fpOperand e.2 ft) = .nan true →
      InvalidGives s fd i e.2.wide (s.qnan e.2).toNat) := by
  rw [fpArith2_eq h1 he hfs hfd hft] at h
  refine ⟨fun hscreen => ?_, fun ha hb hnan => ?_⟩
  · rw [← Bool.or_eq_true] at hscreen
    exact fpTrapped_unimplemented (h.trans (if_pos hscreen))
  · rw [ha, hb] at h
    have hresult := hop s.fpMode (s.qnan e.2) (e.2.value (s.fpOperand e.2 fs)) (e.2.value (s.fpOperand e.2 ft))
      (hnan.imp (fun h => by rw [h]; rfl) fun h => by rw [h]; rfl)
    dsimp only at h
    rw [hresult] at h
    exact invalidGives_qnan h

/-! ### One operand -/

theorem fpUnary_special {f : FpFmt} (hfs : s.holds f fs) {g : FpFmt} (hfd : s.holds g fd)
    {op : Nat → BitVec 6 × DWord} {q : DWord} (hop : ∀ a, (f.value a).isNan = true → op a = (fpV, q))
    (hsig : ∀ v, f.value v = .nan true → f.screened v = false)
    (h : exec i s = s.fpUnary f g.wide fs fd op) :
    (f.screened (s.fpOperand f fs) = true → s.fpTrapped i fpE) ∧
    (f.value (s.fpOperand f fs) = .nan true → InvalidGives s fd i g.wide q.toNat) := by
  rw [State.fpUnary, wide_oddFpr hfs, wide_oddFpr hfd] at h
  refine ⟨fun hscreen => fpTrapped_unimplemented (h.trans (if_pos hscreen)), fun hnan => ?_⟩
  have hrun := h.trans (if_neg (Bool.eq_false_iff.mp (hsig _ hnan)))
  rw [hop _ (by rw [hnan]; rfl)] at hrun
  exact invalidGives_qnan hrun

theorem fpArith1_special {op : FpFmt → DWord → Nat → BitVec 6 × DWord} (h1 : s.copUsable 1 = true)
    (he : e ∈ fpFormats) (hfs : s.holds e.2 fs) (hfd : s.holds e.2 fd)
    (hop : ∀ q a, (e.2.value a).isNan = true → op e.2 q a = (fpV, q)) (h : exec i s = s.fpArith1 e.1 fs fd op) :
    (e.2.screened (s.fpOperand e.2 fs) = true → s.fpTrapped i fpE) ∧
    (e.2.value (s.fpOperand e.2 fs) = .nan true → InvalidGives s fd i e.2.wide (s.qnan e.2).toNat) := by
  rw [State.fpArith1, fpStart_format h1 he, (fpFormat_of_mem he).left] at h
  exact fpUnary_special hfs hfd (hop _) (fun v => not_screened_of_signaling e.2 (ebits_pos he)) h

theorem sqrt_nan (f : FpFmt) (c : FpMode) (q : DWord) {a : FpVal} (h : a.isNan = true) : f.sqrt c q a = (fpV, q) := by
  cases a with
  | nan _ => rfl
  | inf _ => exact absurd h Bool.false_ne_true
  | fin _ _ _ => exact absurd h Bool.false_ne_true

theorem convert_nan (f : FpFmt) (c : FpMode) (q : DWord) {a : FpVal} (h : a.isNan = true) :
    f.convert c q a = (fpV, q) := by
  cases a with
  | nan _ => rfl
  | inf _ => exact absurd h Bool.false_ne_true
  | fin _ _ _ => exact absurd h Bool.false_ne_true

/-! ### Conversions to integers -/

theorem toFixed_special (h1 : s.copUsable 1 = true) (he : e ∈ fpFormats) (hfs : s.holds e.2 fs) {long : Bool}
    (hlong : LongOk s long fd) {w : Instr × BitVec 2} (hw : w ∈ toFixedForms s long e.1 fs fd) :
    (e.2.denormal (s.fpOperand e.2 fs) = true → s.fpTrapped w.1 fpE) ∧
    (e.2.denormal (s.fpOperand e.2 fs) = false →
      ((e.2.value (s.fpOperand e.2 fs)).isFin = false ∨
        ∃ z, roundsTo w.2 (e.2.value (s.fpOperand e.2 fs)).rat z ∧ ¬ fits (if long then 64 else 32) z) →
      if s.cfg.fixedConvertInvalid = true then
        InvalidGives s fd w.1 long (2 ^ ((if long then 64 else 32) - 1) - 1) else s.fpTrapped w.1 fpE) := by
  have hrun := exec_toFixed hw
  rw [fpToFixed_eq h1 he hfs hlong] at hrun
  refine ⟨fun hden => fpTrapped_unimplemented (hrun.trans (if_pos hden)), fun hden hbad => ?_⟩
  have hresult : toFixed (if long then 64 else 32) w.2 s.cfg.fixedConvertInvalid (e.2.value (s.fpOperand e.2 fs)) =
      unfit (if long then 64 else 32) s.cfg.fixedConvertInvalid := by
    obtain hfin | ⟨z, hz, hfits⟩ := hbad
    · exact toFixed_not_fin _ _ hfin
    · cases ha : e.2.value (s.fpOperand e.2 fs) with
      | nan _ => exact toFixed_not_fin _ _ rfl
      | inf _ => exact toFixed_not_fin _ _ rfl
      | fin sgn m ex =>
        rw [ha] at hz
        exact (toFixed_fin w.2 sgn _ hz).right hfits
  rw [hden, if_neg Bool.false_ne_true, hresult] at hrun
  dsimp only [unfit] at hrun
  cases hinvalid : s.cfg.fixedConvertInvalid with
  | true =>
    rw [hinvalid] at hrun
    exact invalid_fpFinish hrun rfl
  | false =>
    rw [hinvalid] at hrun
    exact fpFinish_traps hrun (fpTraps_unimplemented _)

/-! ### Formats that an instruction does not have -/

/-- A format without its form of the instruction, where its operations are enabled, is Unimplemented Operation. -/
theorem fpTrapped_format (h1 : s.copUsable 1 = true) {b : Bool} (h64 : b = true → s.ops64Enabled = true)
    (h : exec i s = s.fpStart b s.fpUnimplemented) : s.fpTrapped i fpE :=
  fpTrapped_unimplemented (h.trans (fpStart_usable h1 h64 _))

end

/-- Settles O54: what the screen of R580 lets through, NaNs and unfit values among it, is answered by the operation
itself; a format without a form of the instruction ends before any operand is read. -/
theorem fpSpecialOperands : Obligations.FpSpecialOperands := by
  intro s fs ft fd cond h1
  dsimp only
  refine ⟨fun e he hfs hft hfd => ⟨?two, ?one⟩, ?float, fun e he hfs => ⟨fun w hw => ?word, fun h64 hfd w hw => ?dword⟩,
    ?formats, ?longs, ?same⟩
  case two =>
    simp only [List.forall_mem_cons, List.not_mem_nil, false_implies, implies_true, and_true]
    exact ⟨fpArith2_special h1 he hfs hft hfd (invalidOnNan_add _) rfl,
      fpArith2_special h1 he hfs hft hfd (invalidOnNan_sub _) rfl,
      fpArith2_special h1 he hfs hft hfd (invalidOnNan_mul _) rfl,
      fpArith2_special h1 he hfs hft hfd (invalidOnNan_div _) rfl⟩
  case one =>
    simp only [List.forall_mem_cons, List.not_mem_nil, false_implies, implies_true, and_true]
    exact ⟨fpArith1_special (op := fun f q a => f.sqrt s.fpMode q (f.value a)) h1 he hfs hfd
        (fun q a h => sqrt_nan _ _ q h) rfl,
      fpArith1_special h1 he hfs hfd (fun q a h => if_pos h) (exec_absFmt s e.1 fs fd),
      fpArith1_special h1 he hfs hfd (fun q a h => if_pos h) (exec_negFmt s e.1 fs fd)⟩
  case float =>
    simp only [List.forall_mem_cons, List.not_mem_nil, false_implies, implies_true, and_true]
    refine ⟨fun hfs hfd => ?_, fun hfs hfd => ?_⟩
    · exact fpUnary_special hfs hfd (fun a h => convert_nan _ _ _ h)
        (fun v => not_screened_of_signaling fmtD (by decide))
        ((fpStart_usable h1 (fun h => absurd h (by decide)) _).trans (if_pos rfl))
    · exact fpUnary_special hfs hfd (fun a h => convert_nan _ _ _ h)
        (fun v => not_screened_of_signaling fmtS (by decide))
        ((fpStart_usable h1 (fun h => absurd h (by decide)) _).trans (if_pos rfl))
  case word => exact toFixed_special h1 he hfs (long := false) (fun h => absurd h Bool.false_ne_true) hw
  case dword => exact toFixed_special h1 he hfs (long := true) (fun _ => ⟨h64, hfd⟩) hw
  case formats =>
    intro fmt hfmt h64
    have hwide : (fmt == 21) = true → s.ops64Enabled = true := fun h => h64 (eq_of_beq h)
    simp only [List.mem_cons, List.not_mem_nil, or_false] at hfmt
    obtain rfl | rfl := hfmt <;>
      simp only [List.forall_mem_cons, List.not_mem_nil, false_implies, implies_true, and_true] <;>
      and_intros <;> exact fpTrapped_format h1 hwide rfl
  case longs =>
    intro h64
    simp only [List.forall_mem_cons, List.not_mem_nil, false_implies, implies_true, and_true]
    and_intros <;> exact fpTrapped_format h1 (fun _ => h64) rfl
  case same =>
    simp only [List.forall_mem_cons, List.not_mem_nil, false_implies, implies_true, and_true]
    and_intros <;> exact fpTrapped_format (b := false) h1 (fun h => absurd h Bool.false_ne_true) rfl

end Sys2Proof.Proofs

/-! ## Proofs: rounding to a format (47_fpu_state_formats R571, R575 to R579; O50) -/

namespace Sys2Proof.Proofs
open Sys2Proof.Machine

/-! ### The length of a number -/

theorem bitLength_pos {n : Nat} (h : n ≠ 0) : 0 < bitLength n := by
  rw [bitLength, if_neg h]
  exact Nat.succ_pos _

theorem lt_two_pow_bitLength (n : Nat) : n < 2 ^ bitLength n := by
  by_cases h : n = 0
  · rw [h]
    decide
  · rw [bitLength, if_neg h]
    exact Nat.lt_log2_self

theorem two_pow_bitLength_le {n : Nat} (h : n ≠ 0) : 2 ^ (bitLength n - 1) ≤ n := by
  rw [bitLength, if_neg h, Nat.add_sub_cancel]
  exact Nat.log2_self_le h

theorem bitLength_le {n k : Nat} (h : n < 2 ^ k) : bitLength n ≤ k := by
  by_cases hn : n = 0
  · rw [hn]
    exact Nat.zero_le k
  · have hlt := (Nat.pow_lt_pow_iff_right (by decide)).mp ((two_pow_bitLength_le hn).trans_lt h)
    omega

theorem lt_bitLength {n k : Nat} (h : 2 ^ k ≤ n) : k < bitLength n :=
  (Nat.pow_lt_pow_iff_right (by decide)).mp (h.trans_lt (lt_two_pow_bitLength n))

theorem bitLength_eq {n k : Nat} (hlo : 2 ^ k ≤ n) (hhi : n < 2 ^ (k + 1)) : bitLength n = k + 1 :=
  Nat.le_antisymm (bitLength_le hhi) (lt_bitLength hlo)

theorem bitLength_mul_two_pow {n : Nat} (h : n ≠ 0) (j : Nat) : bitLength (n * 2 ^ j) = bitLength n + j := by
  have hpos := bitLength_pos h
  have heq : bitLength n + j = bitLength n - 1 + j + 1 := by omega
  rw [heq]
  apply bitLength_eq
  · rw [Nat.pow_add]
    exact Nat.mul_le_mul_right _ (two_pow_bitLength_le h)
  · rw [← heq, Nat.pow_add]
    exact Nat.mul_lt_mul_of_pos_right (lt_two_pow_bitLength n) (Nat.two_pow_pos j)

section
variable (f : FpFmt) (c : FpMode) (sign : Bool) {m : Nat} (e : Int) (sticky : Bool)

/-! ### The two steps of rounding -/

/-- How many low bits of a significand a format has no room for. -/
def dropped (m : Nat) : Nat := bitLength m - f.prec

/-- The exponent of the highest bit after rounding. -/
def topExp (q m : Nat) (e : Int) : Int := e + dropped f m + bitLength q - 1

/-- Narrowing to the format (47_fpu_state_formats R575, R578, R579). -/
def narrowed (q : Nat) (inexact : Bool) (top : Int) : BitVec 6 × DWord :=
  if top > f.emax then (fpO ||| fpI, f.overflowed c.rm sign)
  else if top < f.emin then
    if c.trapU then (fpU ||| (if inexact then fpI else 0), f.zero sign)
    else if c.flush then (fpU ||| fpI, f.flushed c.rm sign)
    else (fpE, f.zero sign)
  else
    (if inexact then fpI else 0, f.pack sign (top + f.emax).toNat (q * 2 ^ f.prec / 2 ^ bitLength q - 2 ^ f.fbits))

theorem round_eq : f.round c sign m e sticky =
    narrowed f c sign (roundShift c.rm sign m (dropped f m) sticky).1 (roundShift c.rm sign m (dropped f m) sticky).2
      (topExp f (roundShift c.rm sign m (dropped f m) sticky).1 m e) := rfl

/-- Rounding keeps the length of a number or makes it one bit longer. -/
theorem topExp_bounds (rm : BitVec 2) (hm : m ≠ 0) :
    e + bitLength m - 1 ≤ topExp f (roundShift rm sign m (dropped f m) sticky).1 m e ∧
    topExp f (roundShift rm sign m (dropped f m) sticky).1 m e ≤ e + bitLength m := by
  have hpos := bitLength_pos hm
  have hprec : 0 < f.prec := Nat.succ_pos _
  have hle : dropped f m + 1 ≤ bitLength m := by
    rw [dropped]
    omega
  obtain ⟨j, hj⟩ := Nat.exists_eq_add_of_le hle
  rw [topExp, roundShift_eq]
  dsimp only
  generalize dropped f m = k at hj ⊢
  -- The quotient has `j + 1` bits.
  have hlo : 2 ^ j ≤ m / 2 ^ k := by
    rw [Nat.le_div_iff_mul_le (Nat.two_pow_pos k), ← Nat.pow_add]
    have h := two_pow_bitLength_le hm
    rwa [hj, show k + 1 + j - 1 = j + k by omega] at h
  have hhi : m / 2 ^ k < 2 ^ (j + 1) := by
    rw [Nat.div_lt_iff_lt_mul (Nat.two_pow_pos k), ← Nat.pow_add]
    have h := lt_two_pow_bitLength m
    rwa [hj, show k + 1 + j = j + 1 + k by omega] at h
  have hb := Bool.toNat_le (roundsUp rm sign m k sticky)
  generalize (roundsUp rm sign m k sticky).toNat = b at hb ⊢
  have hlong := lt_bitLength (n := m / 2 ^ k + b) (hlo.trans (Nat.le_add_right _ _))
  have hshort : bitLength (m / 2 ^ k + b) ≤ j + 2 := bitLength_le (by
    rw [Nat.pow_succ 2 (j + 1)]
    omega)
  omega

/-! ### Far outside the range of a format -/

theorem lt_exp_of_le {a b : Int} (h : (2 : ℚ) ^ a < (2 : ℚ) ^ b) : a < b := (zpow_lt_zpow_iff_right₀ one_lt_two).mp h

/-- The highest bit of `m * 2^e` from a bound of its value. -/
theorem exp_lt_of_le_value {a : Int} (h : (2 : ℚ) ^ a ≤ (m : ℚ) * (2 : ℚ) ^ e) : a < e + bitLength m := by
  apply lt_exp_of_le
  calc (2 : ℚ) ^ a ≤ (m : ℚ) * (2 : ℚ) ^ e := h
    _ < (2 : ℚ) ^ bitLength m * (2 : ℚ) ^ e := by
      have hlt : (m : ℚ) < (2 : ℚ) ^ bitLength m := by exact_mod_cast lt_two_pow_bitLength m
      exact mul_lt_mul_of_pos_right hlt (zpow_pos two_pos e)
    _ = (2 : ℚ) ^ (e + bitLength m) := by rw [zpow_add₀ two_ne_zero, zpow_natCast, mul_comm]

theorem exp_lt_of_value_lt (hm : m ≠ 0) {a : Int} (h : (m : ℚ) * (2 : ℚ) ^ e < (2 : ℚ) ^ a) :
    e + bitLength m - 1 < a := by
  have hpos := bitLength_pos hm
  apply lt_exp_of_le
  calc (2 : ℚ) ^ (e + bitLength m - 1) = (2 : ℚ) ^ (bitLength m - 1) * (2 : ℚ) ^ e := by
        rw [← zpow_natCast, ← zpow_add₀ two_ne_zero]
        congr 1
        omega
    _ ≤ (m : ℚ) * (2 : ℚ) ^ e := by
      have hle : (2 : ℚ) ^ (bitLength m - 1) ≤ m := by exact_mod_cast two_pow_bitLength_le hm
      exact mul_le_mul_of_nonneg_right hle (zpow_pos two_pos e).le
    _ < (2 : ℚ) ^ a := h

section
variable (q : Nat) (inexact : Bool) {top : Int}

theorem narrowed_over (h : top > f.emax) :
    narrowed f c sign q inexact top = (fpO ||| fpI, f.overflowed c.rm sign) := if_pos h

theorem narrowed_under (h : top < f.emin) : narrowed f c sign q inexact top =
    if c.trapU then (fpU ||| (if inexact then fpI else 0), f.zero sign)
    else if c.flush then (fpU ||| fpI, f.flushed c.rm sign) else (fpE, f.zero sign) := by
  have hover : ¬ top > f.emax := by
    rw [FpFmt.emin] at h
    omega
  rw [narrowed, if_neg hover, if_pos h]

theorem narrowed_within (hlo : f.emin ≤ top) (hhi : top ≤ f.emax) : narrowed f c sign q inexact top =
    (if inexact then fpI else 0,
      f.pack sign (top + f.emax).toNat (q * 2 ^ f.prec / 2 ^ bitLength q - 2 ^ f.fbits)) := by
  rw [narrowed, if_neg (by omega), if_neg (by omega)]

end

theorem round_overflow (hm : m ≠ 0) (h : (m : ℚ) * (2 : ℚ) ^ e ≥ (2 : ℚ) ^ (f.emax + 1)) :
    f.round c sign m e sticky = (fpO ||| fpI, f.overflowed c.rm sign) := by
  obtain ⟨hlo, -⟩ := topExp_bounds f sign e sticky c.rm hm
  have hexp := exp_lt_of_le_value (a := ((f.emax + 1 : Nat) : Int)) e (by rwa [zpow_natCast])
  rw [round_eq]
  exact narrowed_over f c sign _ _ (by omega)

theorem round_underflow (hm : m ≠ 0) (h : (m : ℚ) * (2 : ℚ) ^ e < (2 : ℚ) ^ (f.emin - 1)) : ∃ inexact : Bool,
    f.round c sign m e sticky =
      if c.trapU then (fpU ||| (if inexact then fpI else 0), f.zero sign)
      else if c.flush then (fpU ||| fpI, f.flushed c.rm sign) else (fpE, f.zero sign) := by
  obtain ⟨-, hhi⟩ := topExp_bounds f sign e sticky c.rm hm
  have hexp := exp_lt_of_value_lt e hm h
  rw [round_eq]
  exact ⟨_, narrowed_under f c sign _ _ (by omega)⟩

end

/-! ### The default results (47_fpu_state_formats R578, R579) -/

theorem toNat_overflowed {f : FpFmt} (hf : f ∈ [fmtS, fmtD]) (rm : BitVec 2) (sign : Bool) :
    (f.overflowed rm sign).toNat = (if sign then 2 ^ (f.width - 1) else 0) + (2 ^ f.ebits - 1) * 2 ^ f.fbits
      - (if rm = 0 ∨ (rm = 2 ∧ sign = false ∨ rm = 3 ∧ sign = true) then 0 else 1) := by
  revert rm sign
  revert f
  decide

theorem toNat_flushed {f : FpFmt} (hf : f ∈ [fmtS, fmtD]) (rm : BitVec 2) (sign : Bool) :
    (f.flushed rm sign).toNat = (if sign then 2 ^ (f.width - 1) else 0) +
      (if rm = 2 ∧ sign = false ∨ rm = 3 ∧ sign = true then 2 ^ f.fbits else 0) := by
  revert rm sign
  revert f
  decide

/-- Settles O50: a value that far outside has its highest bit outside before and after rounding. -/
theorem fpOverflowUnderflow : Obligations.FpOverflowUnderflow := by
  intro c sign m x hm f hf
  dsimp only
  refine ⟨fun h => ?large, fun h => ?small⟩
  case large =>
    rw [round_overflow f c sign x false hm.ne' h]
    exact ⟨rfl, toNat_overflowed hf c.rm sign⟩
  case small =>
    obtain ⟨inexact, hr⟩ := round_underflow f c sign x false hm.ne' h
    rw [hr]
    refine ⟨fun hu => ?_, fun hu hfl => ?_, fun hu hfl => ?_⟩ <;> rw [hu]
    · have hbits : ∀ b : Bool, (fpU ||| (if b then fpI else 0)).getLsbD 1 = true ∧
          (fpU ||| (if b then fpI else 0)).getLsbD 5 = false := by decide
      exact hbits inexact
    · rw [hfl]
      exact ⟨rfl, toNat_flushed hf c.rm sign⟩
    · rw [hfl]
      rfl

end Sys2Proof.Proofs

/-! ## Proofs: the arithmetic completes with the traps off (49_fpu_arith_convert_compare R630, R640 to R644,
47_fpu_state_formats R575 to R579; O47) -/

namespace Sys2Proof.Proofs
open Sys2Proof.Machine

/-- Conditions without Unimplemented Operation. -/
def Handled (r : BitVec 6 × DWord) : Prop := r.1.getLsbD 5 = false

theorem handled_none (v : DWord) : Handled (0, v) := by simp [Handled]

theorem handled_invalid (v : DWord) : Handled (fpV, v) := by simp [Handled, fpV]

theorem handled_divideByZero (v : DWord) : Handled (fpZ, v) := by simp [Handled, fpZ]

section
variable (f : FpFmt) {c : FpMode} (hflush : c.flush = true) (q : DWord)
include hflush

theorem handled_round (sign : Bool) (m : Nat) (e : Int) (sticky : Bool) : Handled (f.round c sign m e sticky) := by
  have hinexact : ∀ b : Bool, (if b then fpI else 0 : BitVec 6).getLsbD 5 = false ∧
      (fpU ||| (if b then fpI else 0)).getLsbD 5 = false := by decide
  rw [round_eq]
  generalize (roundShift c.rm sign m (dropped f m) sticky).1 = k
  generalize (roundShift c.rm sign m (dropped f m) sticky).2 = inexact
  generalize topExp f k m e = top
  obtain ⟨hbit, hbitU⟩ := hinexact inexact
  by_cases hover : top > f.emax
  · rw [narrowed_over f c sign _ _ hover]
    simp [Handled, fpO, fpI]
  · by_cases hunder : top < f.emin
    · rw [narrowed_under f c sign _ _ hunder, hflush]
      split
      · exact hbitU
      · simp [Handled, fpU, fpI]
    · rw [narrowed_within f c sign _ _ (by omega) (by omega)]
      exact hbit

theorem handled_add (a b : FpVal) : Handled (f.add c q a b) := by
  unfold FpFmt.add
  split
  · exact handled_invalid q
  · exact handled_invalid q
  · split
    · exact handled_none _
    · exact handled_invalid q
  · exact handled_none _
  · exact handled_none _
  · dsimp only
    unfold FpFmt.roundInt
    split
    · exact handled_none _
    · exact handled_round f hflush _ _ _ _

theorem handled_mul (a b : FpVal) : Handled (f.mul c q a b) := by
  unfold FpFmt.mul
  split
  · exact handled_invalid q
  · exact handled_invalid q
  · exact handled_none _
  · split
    · exact handled_invalid q
    · exact handled_none _
  · split
    · exact handled_invalid q
    · exact handled_none _
  · split
    · exact handled_none _
    · exact handled_round f hflush _ _ _ _

theorem handled_div (a b : FpVal) : Handled (f.div c q a b) := by
  unfold FpFmt.div
  split
  · exact handled_invalid q
  · exact handled_invalid q
  · exact handled_invalid q
  · exact handled_none _
  · exact handled_none _
  · split
    · split
      · exact handled_invalid q
      · exact handled_divideByZero _
    · split
      · exact handled_none _
      · exact handled_round f hflush _ _ _ _

theorem handled_sqrt (a : FpVal) : Handled (f.sqrt c q a) := by
  unfold FpFmt.sqrt
  split
  · exact handled_invalid q
  · split
    · exact handled_invalid q
    · exact handled_none _
  · split
    · exact handled_none _
    · split
      · exact handled_invalid q
      · exact handled_round f hflush _ _ _ _

end

section
variable {s : State} {i : Instr} {e : BitVec 5 × FpFmt} {fs ft fd : Reg} (h1 : s.copUsable 1 = true)
  (he : e ∈ fpFormats) (hfs : s.holds e.2 fs) (hfd : s.holds e.2 fd)
  (ha : e.2.screened (s.fpOperand e.2 fs) = false)

section
variable {r : BitVec 6 × DWord} {wide : Bool}

/-- With no trap enabled an operation that the hardware handles completes. -/
theorem completes_handled (hen : fcrEnables s.fcrSeen = 0) (hr : Handled r)
    (h : exec i s = s.fpFinish r.1 (State.fpStore wide fd r.2)) :
    s.completes i fun t => ∃ bits cause, s.WroteFp t wide fd bits cause ∧ cause.getLsbD 5 = false := by
  have htraps : fpTraps r.1 (fcrEnables s.fcrSeen) = false := by
    rw [hen, fpTraps, hr]
    simp
  obtain ⟨t, ht, hwrote⟩ := completes_fpFinish h htraps (dword_eq_ofNat r.2)
  exact ⟨t, ht, _, _, hwrote, hr⟩

end

include h1 he hfs hfd ha

theorem fpArith2_screened {op : FpFmt → FpMode → DWord → FpVal → FpVal → BitVec 6 × DWord} (hft : s.holds e.2 ft)
    (hb : e.2.screened (s.fpOperand e.2 ft) = false) (h : exec i s = s.fpArith2 e.1 ft fs fd op) :
    let r := op e.2 s.fpMode (s.qnan e.2) (e.2.value (s.fpOperand e.2 fs)) (e.2.value (s.fpOperand e.2 ft))
    exec i s = s.fpFinish r.1 (State.fpStore e.2.wide fd r.2) := by
  rw [fpArith2_eq h1 he hfs hfd hft, ha, hb] at h
  exact h

theorem fpSqrt_screened : let r := e.2.sqrt s.fpMode (s.qnan e.2) (e.2.value (s.fpOperand e.2 fs))
    exec (.sqrtFmt e.1 fs fd) s = s.fpFinish r.1 (State.fpStore e.2.wide fd r.2) := by
  have h : exec (.sqrtFmt e.1 fs fd) s = s.fpArith1 e.1 fs fd fun f q a => f.sqrt s.fpMode q (f.value a) := rfl
  rw [fpArith1_eq h1 he hfs hfd, ha] at h
  exact h

end

/-- Settles O47: with FS = 1 no rounding is Unimplemented Operation, and the other outcomes never are. -/
theorem fpArithmeticCompletes : Obligations.FpArithmeticCompletes := by
  intro s fs ft fd h1 hen hfs1 e he hfs hft hfd ha hb
  have hflush : s.fpMode.flush = true := hfs1
  simp only [List.forall_mem_cons, List.not_mem_nil, false_implies, implies_true, and_true]
  exact ⟨completes_handled hen (handled_add e.2 hflush _ _ _) (fpArith2_screened h1 he hfs hfd ha hft hb rfl),
    completes_handled hen (handled_add e.2 hflush _ _ _)
      (fpArith2_screened (op := FpFmt.sub) h1 he hfs hfd ha hft hb rfl),
    completes_handled hen (handled_mul e.2 hflush _ _ _) (fpArith2_screened h1 he hfs hfd ha hft hb rfl),
    completes_handled hen (handled_div e.2 hflush _ _ _) (fpArith2_screened h1 he hfs hfd ha hft hb rfl),
    completes_handled hen (handled_sqrt e.2 hflush _ _) (fpSqrt_screened h1 he hfs hfd ha)⟩

end Sys2Proof.Proofs

/-! ## Proofs: results that a format has (47_fpu_state_formats R571, 49_fpu_arith_convert_compare R640 to R644, R660,
R661; O48, O52) -/

namespace Sys2Proof.Proofs
open Sys2Proof.Machine

/-! ### A number at two scales -/

section
variable {m n : Nat} {e k : Int}

theorem scale_down (h : (m : ℚ) * (2 : ℚ) ^ e = (n : ℚ) * (2 : ℚ) ^ k) (hle : k ≤ e) : m * 2 ^ (e - k).toNat = n := by
  have hk : (2 : ℚ) ^ k ≠ 0 := zpow_ne_zero _ two_ne_zero
  have he : e = ((e - k).toNat : Int) + k := by omega
  rw [he, zpow_add₀ two_ne_zero, zpow_natCast, ← mul_assoc] at h
  exact_mod_cast mul_right_cancel₀ hk h

/-- A value has one integer significand at each scale, up to the bits below the coarser one. -/
theorem scales (h : (m : ℚ) * (2 : ℚ) ^ e = (n : ℚ) * (2 : ℚ) ^ k) :
    (∃ j : Nat, e = k + j ∧ n = m * 2 ^ j) ∨ ∃ j : Nat, k = e + j ∧ m = n * 2 ^ j := by
  obtain hle | hle := Int.le_total k e
  · exact .inl ⟨(e - k).toNat, by omega, (scale_down h hle).symm⟩
  · exact .inr ⟨(k - e).toNat, by omega, (scale_down h.symm hle).symm⟩

end

/-! ### Numbers of a format -/

section
variable {f : FpFmt} {p : Nat}

/-- The fields of a number of the format that is neither zero nor denormalized. -/
structure Normal (f : FpFmt) (p : Nat) : Prop where
  bounded : p < 2 ^ f.width
  notZero : f.expField p ≠ 0
  notInf : f.expField p ≠ 2 ^ f.ebits - 1

theorem finite_of_isFin (h : (f.value p).isFin = true) : f.expField p ≠ 2 ^ f.ebits - 1 := by
  intro he
  by_cases hm : f.fracField p = 0
  · rw [value_inf f p he hm] at h
    exact absurd h Bool.false_ne_true
  · rw [value_nan f p he hm] at h
    exact absurd h Bool.false_ne_true

theorem normal_of_plain (h : f.plainNumber p) (hr : (f.value p).rat ≠ 0) : Normal f p := by
  obtain ⟨hlt, hfin, hden⟩ := h
  have hmax := finite_of_isFin hfin
  refine ⟨hlt, fun h0 => hr ?_, hmax⟩
  have hfrac : f.fracField p = 0 := by
    by_contra hne
    rw [FpFmt.denormal, h0] at hden
    simp [hne] at hden
  rw [value_fin f p hmax, signif, if_pos h0, hfrac, rat_fin]
  simp [signedMag]

theorem signif_normal (h : Normal f p) : signif f p = 2 ^ f.fbits + f.fracField p := if_neg h.notZero

theorem lowExp_normal (h : Normal f p) : lowExp f p = (f.expField p : Int) - f.emax - f.fbits := if_neg h.notZero

theorem fracField_lt (f : FpFmt) (p : Nat) : f.fracField p < 2 ^ f.fbits := Nat.mod_lt _ (Nat.two_pow_pos _)

/-- A normalized significand fills the precision of the format. -/
theorem signif_bounds (h : Normal f p) : 2 ^ f.fbits ≤ signif f p ∧ signif f p < 2 ^ f.prec := by
  have hlt := fracField_lt f p
  rw [signif_normal h, FpFmt.prec, Nat.pow_succ]
  omega

theorem bitLength_signif (h : Normal f p) : bitLength (signif f p) = f.prec := by
  obtain ⟨hlo, hhi⟩ := signif_bounds h
  exact bitLength_eq hlo hhi

theorem pack_self (h : Normal f p) : f.pack (f.signBit p) (f.expField p) (f.fracField p) = BitVec.ofNat 64 p := by
  have hlt : p < 2 ^ (f.ebits + f.fbits) * 2 := (Nat.pow_succ ..) ▸ h.bounded
  have hdiv : p / 2 ^ (f.ebits + f.fbits) < 2 := Nat.div_lt_of_lt_mul hlt
  have hsplit := Nat.div_add_mod p (2 ^ (f.ebits + f.fbits))
  rw [pack_fields, FpFmt.signBit, Nat.mod_eq_of_lt hdiv]
  congr 1
  obtain h0 | h1 : p / 2 ^ (f.ebits + f.fbits) = 0 ∨ p / 2 ^ (f.ebits + f.fbits) = 1 := by
    generalize p / 2 ^ (f.ebits + f.fbits) = d at hdiv
    omega
  · rw [h0] at hsplit ⊢
    simpa using hsplit
  · rw [h1] at hsplit ⊢
    simpa using hsplit

/-- The exponent of the highest bit of a normalized number is within the format's range. -/
theorem expField_range (hf : 0 < f.ebits) (h : Normal f p) :
    f.emin ≤ (f.expField p : Int) - f.emax ∧ (f.expField p : Int) - f.emax ≤ f.emax := by
  have hlt : f.expField p < 2 ^ f.ebits := Nat.mod_lt _ (Nat.two_pow_pos _)
  have hmax := h.notInf
  have hzero := h.notZero
  have hemax : f.emax = 2 ^ (f.ebits - 1) - 1 := rfl
  have hpow : 2 ^ f.ebits = 2 * 2 ^ (f.ebits - 1) := by
    rw [← Nat.pow_succ', Nat.succ_eq_add_one, Nat.sub_one_add_one hf.ne']
  have hpos := Nat.two_pow_pos (f.ebits - 1)
  rw [hpow] at hlt hmax
  rw [FpFmt.emin, hemax]
  omega

/-! ### The key fact: a value that the format has is its own rounding -/

section
variable (hf : 0 < f.ebits) (h : Normal f p) (c : FpMode) (sign : Bool)
include hf h

theorem narrowed_normal {q : Nat} (hq : q * 2 ^ f.prec / 2 ^ bitLength q = signif f p) :
    narrowed f c sign q false ((f.expField p : Int) - f.emax) =
      (0, f.pack sign (f.expField p) (f.fracField p)) := by
  obtain ⟨hlo, hhi⟩ := expField_range hf h
  rw [narrowed_within f c sign q false hlo hhi, hq, signif_normal h, Nat.add_sub_cancel_left, Int.sub_add_cancel]
  rfl

theorem round_normal {m : Nat} {e : Int} (heq : (m : ℚ) * (2 : ℚ) ^ e = (signif f p : ℚ) * (2 : ℚ) ^ lowExp f p) :
    f.round c sign m e false = (0, f.pack sign (f.expField p) (f.fracField p)) := by
  have hlen := bitLength_signif h
  have hlow := lowExp_normal h
  have hpos : signif f p ≠ 0 := ((Nat.two_pow_pos _).trans_le (signif_bounds h).left).ne'
  have hprec : f.prec = f.fbits + 1 := rfl
  rw [round_eq]
  obtain ⟨j, he, hn⟩ | ⟨j, he, hm⟩ := scales heq
  · -- The significand is short: no bit is dropped.
    have hm0 : m ≠ 0 := by
      rintro rfl
      rw [Nat.zero_mul] at hn
      exact hpos hn
    have hlen' : bitLength m + j = f.prec := by rw [← bitLength_mul_two_pow hm0, ← hn, hlen]
    have hdrop : dropped f m = 0 := Nat.sub_eq_zero_of_le (by omega)
    have hexact : m % 2 ^ dropped f m = 0 := by rw [hdrop, Nat.pow_zero, Nat.mod_one]
    have htop : topExp f m m e = (f.expField p : Int) - f.emax := by
      rw [topExp, hdrop]
      omega
    rw [roundShift_exact _ _ hexact, hdrop, Nat.pow_zero, Nat.div_one, htop]
    refine narrowed_normal hf h c sign ?_
    rw [hn, ← hlen', Nat.add_comm, Nat.pow_add, ← Nat.mul_assoc, Nat.mul_div_cancel _ (Nat.two_pow_pos _)]
  · -- The significand is long: the dropped bits are zeros.
    have hdrop : dropped f m = j := by
      rw [dropped, hm, bitLength_mul_two_pow hpos, hlen]
      omega
    have hexact : m % 2 ^ dropped f m = 0 := by rw [hdrop, hm, Nat.mul_mod_left]
    have hquot : m / 2 ^ j = signif f p := by rw [hm, Nat.mul_div_cancel _ (Nat.two_pow_pos j)]
    have htop : topExp f (signif f p) m e = (f.expField p : Int) - f.emax := by
      rw [topExp, hdrop, hlen]
      omega
    rw [roundShift_exact _ _ hexact, hdrop, hquot, htop]
    refine narrowed_normal hf h c sign ?_
    rw [hlen, Nat.mul_div_cancel _ (Nat.two_pow_pos _)]

end

theorem signedMag_mul_eq {s s' : Bool} {m m' : Nat} {u u' : ℚ} (hu : 0 < u) (hu' : 0 < u') (hm : m' ≠ 0)
    (h : (signedMag s m : ℚ) * u = (signedMag s' m' : ℚ) * u') : s = s' ∧ (m : ℚ) * u = (m' : ℚ) * u' := by
  have hm' : (0 : ℚ) < (m' : ℚ) * u' := mul_pos (by exact_mod_cast Nat.pos_of_ne_zero hm) hu'
  have hle : (0 : ℚ) ≤ (m : ℚ) * u := mul_nonneg (Nat.cast_nonneg m) hu.le
  cases s <;> cases s' <;> simp only [signedMag, Bool.false_eq_true, if_true, if_false, Int.cast_neg, Int.cast_natCast,
    neg_mul, neg_inj] at h ⊢
  · exact ⟨trivial, h⟩
  · linarith
  · linarith
  · exact ⟨trivial, h⟩

/-- An exact value that a pattern stands for rounds to the pattern, in every mode and without a condition. -/
theorem round_exact (hf : 0 < f.ebits) (h : Normal f p) (c : FpMode) {s : Bool} {m : Nat} {e : Int}
    (heq : (FpVal.fin s m e).rat = (f.value p).rat) : f.round c s m e false = (0, BitVec.ofNat 64 p) := by
  have hpos : signif f p ≠ 0 := ((Nat.two_pow_pos _).trans_le (signif_bounds h).left).ne'
  rw [value_fin f p h.notInf, rat_fin, rat_fin] at heq
  obtain ⟨rfl, hmag⟩ := signedMag_mul_eq (zpow_pos two_pos _) (zpow_pos two_pos _) hpos heq
  rw [round_normal hf h c _ hmag, pack_self h]

theorem roundInt_exact (hf : 0 < f.ebits) (h : Normal f p) (hr : (f.value p).rat ≠ 0) (c : FpMode) {n : Int} {e : Int}
    (heq : (n : ℚ) * (2 : ℚ) ^ e = (f.value p).rat) (z : Bool) : f.roundInt c n e z = (0, BitVec.ofNat 64 p) := by
  have hn : n ≠ 0 := by
    rintro rfl
    rw [Int.cast_zero, zero_mul] at heq
    exact hr heq.symm
  have hsigned : signedMag (decide (n < 0)) n.natAbs = n := by
    rw [signedMag]
    by_cases hneg : n < 0
    · rw [if_pos (decide_eq_true hneg)]
      omega
    · rw [if_neg (by simpa using hneg)]
      omega
  rw [FpFmt.roundInt, if_neg hn]
  exact round_exact hf h c (by rw [rat_fin, hsigned, heq])

end

end Sys2Proof.Proofs

/-! ## Proofs: exact results of the arithmetic (49_fpu_arith_convert_compare R640 to R644, R660, R661; O48, O52) -/

namespace Sys2Proof.Proofs
open Sys2Proof.Machine

section
variable {f : FpFmt} {p : Nat} (hf : 0 < f.ebits) (h : Normal f p) (c : FpMode) (q : DWord)

/-! ### Sum, difference, product -/

section
variable {sa sb : Bool} {ma mb : Nat} {ea eb : Int}

theorem scaled_rat {e0 : Int} (hle : e0 ≤ ea) : (scaled sa ma ea e0 : ℚ) * (2 : ℚ) ^ e0 = (FpVal.fin sa ma ea).rat := by
  have he : ea = ((ea - e0).toNat : Int) + e0 := by omega
  have hpow : (2 : ℚ) ^ ea = (2 : ℚ) ^ (ea - e0).toNat * (2 : ℚ) ^ e0 := by
    conv_lhs => rw [he]
    rw [zpow_add₀ two_ne_zero, zpow_natCast]
  rw [rat_fin, hpow, scaled, signedMag]
  cases sa <;> simp [mul_assoc]

theorem rat_negate (a : FpVal) : a.negate.rat = -a.rat := by
  cases a with
  | nan _ => simp [FpVal.negate, FpVal.rat]
  | inf _ => simp [FpVal.negate, FpVal.rat]
  | fin s m e => cases s <;> simp [FpVal.negate, FpVal.rat]

theorem rat_mul : (FpVal.fin (sa ^^ sb) (ma * mb) (ea + eb)).rat =
    (FpVal.fin sa ma ea).rat * (FpVal.fin sb mb eb).rat := by
  rw [rat_fin, rat_fin, rat_fin, zpow_add₀ two_ne_zero]
  cases sa <;> cases sb <;> simp [signedMag] <;> ring

include hf h

theorem add_exact (hr : (f.value p).rat = (FpVal.fin sa ma ea).rat + (FpVal.fin sb mb eb).rat)
    (hr0 : (f.value p).rat ≠ 0) :
    f.add c q (.fin sa ma ea) (.fin sb mb eb) = (0, BitVec.ofNat 64 p) := by
  refine roundInt_exact hf h hr0 c ?_ _
  rw [hr, ← scaled_rat (min_le_left ea eb), ← scaled_rat (min_le_right ea eb)]
  push_cast
  ring

theorem sub_exact (hr : (f.value p).rat = (FpVal.fin sa ma ea).rat - (FpVal.fin sb mb eb).rat)
    (hr0 : (f.value p).rat ≠ 0) :
    f.sub c q (.fin sa ma ea) (.fin sb mb eb) = (0, BitVec.ofNat 64 p) :=
  add_exact hf h c q (by rw [hr, sub_eq_add_neg, ← rat_negate]; rfl) hr0

theorem mul_exact (hr : (f.value p).rat = (FpVal.fin sa ma ea).rat * (FpVal.fin sb mb eb).rat)
    (hr0 : (f.value p).rat ≠ 0) :
    f.mul c q (.fin sa ma ea) (.fin sb mb eb) = (0, BitVec.ofNat 64 p) := by
  rw [← rat_mul] at hr
  have hm : ma * mb ≠ 0 := by
    intro h0
    rw [hr, h0, rat_fin] at hr0
    simp [signedMag] at hr0
  exact (if_neg hm).trans (round_exact hf h c hr.symm)

end

/-! ### Quotient and square root -/

section
variable {s sa sb : Bool} {m ma mb : Nat} {e ea eb : Int}

theorem rat_eq_zero_iff : (FpVal.fin s m e).rat = 0 ↔ m = 0 := by
  have hpow : (2 : ℚ) ^ e ≠ 0 := zpow_ne_zero e two_ne_zero
  rw [rat_fin, mul_eq_zero, or_iff_left hpow]
  cases s <;> simp [signedMag]

theorem rat_shift (s : Bool) (m : Nat) (e : Int) (j : Nat) :
    (FpVal.fin s (m * 2 ^ j) (e - j)).rat = (FpVal.fin s m e).rat := by
  have hpow : (2 : ℚ) ^ e = (2 : ℚ) ^ j * (2 : ℚ) ^ (e - j) := by
    rw [← zpow_natCast, ← zpow_add₀ two_ne_zero]
    congr 1
    omega
  rw [rat_fin, rat_fin, hpow]
  cases s <;> simp [signedMag, mul_assoc]

/-- A quotient of the precision of the format needs fewer extra bits than the model takes. -/
theorem dvd_quotient {n : Nat} {k : Int} (hbits : f.fbits + 2 ≤ quotientBits) (hn : n < 2 ^ f.prec)
    (hma : 2 ^ f.fbits ≤ ma) (hmb : mb < 2 ^ f.prec)
    (heq : ((n * mb : Nat) : ℚ) * (2 : ℚ) ^ k = (ma : ℚ) * (2 : ℚ) ^ ea) : mb ∣ ma * 2 ^ quotientBits := by
  obtain ⟨j, -, hj⟩ | ⟨j, -, hj⟩ := scales heq
  · rw [hj, Nat.mul_assoc, Nat.mul_comm n, Nat.mul_assoc]
    exact Nat.dvd_mul_right mb _
  · have hlt : 2 ^ (f.fbits + j) < 2 ^ (f.prec + f.prec) := by
      calc 2 ^ (f.fbits + j) ≤ ma * 2 ^ j := by
            rw [Nat.pow_add]
            exact Nat.mul_le_mul_right _ hma
        _ = n * mb := hj.symm
        _ < 2 ^ (f.prec + f.prec) := by
            rw [Nat.pow_add]
            exact Nat.mul_lt_mul'' hn hmb
    have hexp := (Nat.pow_lt_pow_iff_right (by decide)).mp hlt
    have hprec : f.prec = f.fbits + 1 := rfl
    obtain ⟨d, hd⟩ := Nat.exists_eq_add_of_le (show j ≤ quotientBits by omega)
    rw [hd, Nat.pow_add, ← Nat.mul_assoc, ← hj, Nat.mul_right_comm]
    exact Nat.dvd_mul_left mb _

/-- A significand brought to the scale of its square root is a square, if the root is a number of the format. -/
theorem square_of_root {n k : Nat} {x d : Int} (hbits : f.fbits ≤ 52) (hn : n < 2 ^ f.prec) (hm : 2 ^ f.fbits ≤ m)
    (hk : 64 ≤ k) (heq : ((n * n : Nat) : ℚ) * (2 : ℚ) ^ (d + d) = ((m * 2 ^ k : Nat) : ℚ) * (2 : ℚ) ^ (x + x)) :
    ∃ i : Nat, d = x + i ∧ m * 2 ^ k = n * 2 ^ i * (n * 2 ^ i) := by
  obtain ⟨j, he, hj⟩ | ⟨j, -, hj⟩ := scales heq
  · refine ⟨(d - x).toNat, by omega, ?_⟩
    have hj2 : j = (d - x).toNat + (d - x).toNat := by omega
    rw [hj, hj2, Nat.pow_add]
    ring
  · have hlt : 2 ^ (f.fbits + k) < 2 ^ (f.prec + f.prec) := by
      calc 2 ^ (f.fbits + k) ≤ m * 2 ^ k := by
            rw [Nat.pow_add]
            exact Nat.mul_le_mul_right _ hm
        _ ≤ m * 2 ^ k * 2 ^ j := Nat.le_mul_of_pos_right _ (Nat.two_pow_pos j)
        _ = n * n := hj.symm
        _ < 2 ^ (f.prec + f.prec) := by
            rw [Nat.pow_add]
            exact Nat.mul_lt_mul'' hn hn
    have hexp := (Nat.pow_lt_pow_iff_right (by decide)).mp hlt
    have hprec : f.prec = f.fbits + 1 := rfl
    omega

/-- The model's square root finds the root of a square. -/
theorem isqrt_square (root k r : Nat) (hlo : r ≤ root) (hhi : root < r + 2 ^ k) : isqrt (root * root) k r = root := by
  induction k generalizing r with
  | zero => exact Nat.le_antisymm hlo (Nat.lt_succ_iff.mp hhi)
  | succ k ih =>
    rw [isqrt]
    rw [Nat.pow_succ] at hhi
    split
    next hsq =>
      exact ih _ (Nat.mul_self_le_mul_self_iff.mp hsq) (by omega)
    next hsq =>
      have hlt := mt Nat.mul_self_le_mul_self_iff.mpr hsq
      exact ih _ hlo (by omega)

include hf h

theorem div_exact (hbits : f.fbits + 2 ≤ quotientBits) (hma : 2 ^ f.fbits ≤ ma) (hmb : mb < 2 ^ f.prec)
    (hmb0 : mb ≠ 0) (hr : (f.value p).rat * (FpVal.fin sb mb eb).rat = (FpVal.fin sa ma ea).rat) :
    f.div c q (.fin sa ma ea) (.fin sb mb eb) = (0, BitVec.ofNat 64 p) := by
  have hma0 : ma ≠ 0 := ((Nat.two_pow_pos _).trans_le hma).ne'
  have hy : (FpVal.fin sb mb eb).rat ≠ 0 := mt rat_eq_zero_iff.mp hmb0
  obtain ⟨-, hn⟩ := signif_bounds h
  have hprod := hr
  rw [value_fin f p h.notInf, ← rat_mul, rat_fin, rat_fin] at hprod
  obtain ⟨-, hmag⟩ := signedMag_mul_eq (zpow_pos two_pos _) (zpow_pos two_pos _) hma0 hprod
  have hdvd := dvd_quotient hbits hn hma hmb hmag
  have hsticky : (ma * 2 ^ quotientBits % mb != 0) = false := by
    rw [Nat.mod_eq_zero_of_dvd hdvd]
    rfl
  have hquot : (FpVal.fin (sa ^^ sb) (ma * 2 ^ quotientBits / mb) (ea - eb - quotientBits)).rat = (f.value p).rat := by
    apply mul_right_cancel₀ hy
    rw [hr, ← rat_mul, Nat.div_mul_cancel hdvd, Bool.xor_assoc, Bool.xor_self, Bool.xor_false,
      ← rat_shift sa ma ea quotientBits]
    congr 2
    omega
  refine (if_neg hmb0).trans ((if_neg hma0).trans ?_)
  dsimp only
  rw [hsticky]
  exact round_exact hf h c hquot

theorem sqrt_exact (hbits : f.fbits ≤ 52) (hm : 2 ^ f.fbits ≤ m) (hm' : m < 2 ^ f.prec)
    (hr0 : 0 < (f.value p).rat) (hr : (f.value p).rat * (f.value p).rat = (FpVal.fin s m e).rat) :
    f.sqrt c q (.fin s m e) = (0, BitVec.ofNat 64 p) := by
  have hm0 : m ≠ 0 := ((Nat.two_pow_pos _).trans_le hm).ne'
  obtain ⟨-, hp⟩ := signif_bounds h
  have hvalue := value_fin f p h.notInf
  have hprod := hr
  rw [hvalue, ← rat_mul, rat_fin, rat_fin] at hprod
  obtain ⟨hsign, hmag⟩ := signedMag_mul_eq (zpow_pos two_pos _) (zpow_pos two_pos _) hm0 hprod
  rw [Bool.xor_self] at hsign
  subst hsign
  refine (if_neg hm0).trans ((if_neg Bool.false_ne_true).trans ?_)
  dsimp only
  obtain ⟨hk, hk', heven⟩ : 64 ≤ (if e % 2 = 0 then 64 else 65) ∧ (if e % 2 = 0 then 64 else 65) ≤ 65 ∧
      (e - ((if e % 2 = 0 then 64 else 65 : Nat) : Int)) % 2 = 0 := by
    split <;> omega
  generalize (if e % 2 = 0 then 64 else 65 : Nat) = k at hk hk' heven ⊢
  have hscale : ((signif f p * signif f p : Nat) : ℚ) * (2 : ℚ) ^ (lowExp f p + lowExp f p) =
      ((m * 2 ^ k : Nat) : ℚ) * (2 : ℚ) ^ ((e - k) / 2 + (e - k) / 2) := by
    rw [hmag, show (e - k) / 2 + (e - k) / 2 = e - k by omega]
    have hs := rat_shift false m e k
    rw [rat_fin, rat_fin] at hs
    exact_mod_cast hs.symm
  obtain ⟨i, hi, hsquare⟩ := square_of_root hbits hp hm hk hscale
  have hroot : isqrt (m * 2 ^ k) 60 0 = signif f p * 2 ^ i := by
    rw [hsquare]
    refine isqrt_square _ 60 0 (Nat.zero_le _) ?_
    rw [Nat.zero_add, ← Nat.mul_self_lt_mul_self_iff, ← hsquare, ← Nat.pow_add]
    calc m * 2 ^ k < 2 ^ f.prec * 2 ^ k := Nat.mul_lt_mul_of_pos_right hm' (Nat.two_pow_pos k)
      _ = 2 ^ (f.prec + k) := (Nat.pow_add ..).symm
      _ ≤ 2 ^ (60 + 60) := Nat.pow_le_pow_right (by decide) (by
        have hprec : f.prec = f.fbits + 1 := rfl
        omega)
  have hsticky : (signif f p * 2 ^ i * (signif f p * 2 ^ i) != m * 2 ^ k) = false := by
    rw [← hsquare]
    exact bne_self_eq_false _
  rw [hroot, hsticky]
  refine round_exact hf h c ?_
  have hshift := rat_shift false (signif f p) (lowExp f p) i
  rw [show lowExp f p - i = (e - k) / 2 by omega] at hshift
  rw [hshift]
  rw [hvalue] at hr0 ⊢
  cases hs : f.signBit p with
  | false => rfl
  | true =>
    rw [hs, rat_fin, signedMag, if_pos rfl] at hr0
    have hneg : (0 : ℚ) ≤ (signif f p : ℚ) * (2 : ℚ) ^ lowExp f p := by positivity
    push_cast at hr0
    linarith

end

end

/-! ### The instructions -/

theorem fbits_le {e : BitVec 5 × FpFmt} (he : e ∈ fpFormats) : e.2.fbits ≤ 52 := by
  have hformats : ∀ e ∈ fpFormats, e.2.fbits ≤ 52 := by decide
  exact hformats e he

section
variable {f : FpFmt} {v : Nat}

theorem not_screened_of_plain (h : f.plainNumber v) : f.screened v = false := by
  obtain ⟨-, hfin, hden⟩ := h
  refine screened_of_number f v ?_ hden
  rw [value_fin f v (finite_of_isFin hfin)]
  rfl

theorem value_plain (h : f.plainNumber v) : f.value v = .fin (f.signBit v) (signif f v) (lowExp f v) := by
  obtain ⟨-, hfin, -⟩ := h
  exact value_fin f v (finite_of_isFin hfin)

theorem signif_lt (f : FpFmt) (v : Nat) : signif f v < 2 ^ f.prec := by
  have hlt := fracField_lt f v
  rw [signif, FpFmt.prec, Nat.pow_succ]
  split <;> omega

end

section
variable {s : State} {i : Instr} {wide : Bool} {fs ft fd : Reg} {p : Nat}

theorem completes_exact {r : BitVec 6 × DWord} (h : exec i s = s.fpFinish r.1 (State.fpStore wide fd r.2))
    (hr : r = (0, BitVec.ofNat 64 p)) : s.completes i (s.WroteFp · wide fd p 0) := by
  rw [hr] at h
  exact completes_fpFinish h (fpTraps_none _) rfl

end

/-- Settles O48: the exact value of the operation, as the model computes it, stands for the same number as the pattern,
so it rounds to the pattern. -/
theorem fpExactResults : Obligations.FpExactResults := by
  intro s fs ft fd p h1 e he hfs hft hfd
  dsimp only
  intro ha hp hr0
  have hf := ebits_pos he
  have hbits := fbits_le he
  have h := normal_of_plain hp hr0
  have hna := not_screened_of_plain ha
  have hva := value_plain ha
  refine ⟨fun hb => ?two, fun hpos hr => ?sqrt⟩
  case two =>
    have hnb := not_screened_of_plain hb
    have hvb := value_plain hb
    refine ⟨fun hr => ?_, fun hr => ?_, fun hr => ?_, fun hy hr => ?_⟩
    · refine completes_exact (fpArith2_screened (op := FpFmt.add) h1 he hfs hfd hna hft hnb rfl) ?_
      rw [hva, hvb] at hr ⊢
      exact add_exact hf h _ _ hr hr0
    · refine completes_exact (fpArith2_screened (op := FpFmt.sub) h1 he hfs hfd hna hft hnb rfl) ?_
      rw [hva, hvb] at hr ⊢
      exact sub_exact hf h _ _ hr hr0
    · refine completes_exact (fpArith2_screened (op := FpFmt.mul) h1 he hfs hfd hna hft hnb rfl) ?_
      rw [hva, hvb] at hr ⊢
      exact mul_exact hf h _ _ hr hr0
    · obtain ⟨hma, -⟩ := signif_bounds (normal_of_plain ha (hr ▸ mul_ne_zero hr0 hy))
      refine completes_exact (fpArith2_screened (op := FpFmt.div) h1 he hfs hfd hna hft hnb rfl) ?_
      rw [hvb] at hy hr ⊢
      rw [hva] at hr ⊢
      exact div_exact hf h _ _ (by rw [quotientBits]; omega) hma (signif_lt _ _) (mt rat_eq_zero_iff.mpr hy) hr
  case sqrt =>
    obtain ⟨hm, hm'⟩ := signif_bounds (normal_of_plain ha (hr ▸ mul_ne_zero hr0 hr0))
    refine completes_exact (fpSqrt_screened h1 he hfs hfd hna) ?_
    rw [hva] at hr ⊢
    exact sqrt_exact hf h _ _ hbits hm hm' hpos hr

section
variable {s : State} {g src : FpFmt} {code : BitVec 5} {fs fd : Reg} {p : Nat} {i : Instr}
  (h1 : s.copUsable 1 = true) (hg : 0 < g.ebits) (hfd : s.holds g fd) (hp : g.plainNumber p)
  (hr : (g.value p).rat ≠ 0)
include hg hfd hp hr

theorem fpFromFixed_exact {long : Bool} (hfs : (long && s.oddFpr fs) = false) {n : Int}
    (hn : n = if long then (s.fpr64 fs).toInt else (s.fpr32 fs).toInt) (heq : (n : ℚ) = (g.value p).rat)
    (h : exec i s = s.fpFromFixed g long fs fd) : s.completes i (s.WroteFp · g.wide fd p 0) := by
  rw [State.fpFromFixed, hfs, wide_oddFpr hfd] at h
  refine completes_exact (r := g.ofInt s.fpMode n) (by rw [h, hn]; rfl) ?_
  exact roundInt_exact hg (normal_of_plain hp hr) hr s.fpMode (by rw [zpow_zero, mul_one, heq]) false

theorem fpUnary_convert_exact (hfs : s.holds src fs) (hsrc : src.plainNumber (s.fpOperand src fs))
    (heq : (src.value (s.fpOperand src fs)).rat = (g.value p).rat)
    (h : exec i s = s.fpUnary src g.wide fs fd fun a => g.convert s.fpMode (s.qnan g) (src.value a)) :
    s.completes i (s.WroteFp · g.wide fd p 0) := by
  rw [State.fpUnary, wide_oddFpr hfs, wide_oddFpr hfd] at h
  refine completes_exact (r := g.convert s.fpMode (s.qnan g) (src.value (s.fpOperand src fs)))
    (h.trans (if_neg (Bool.eq_false_iff.mp (not_screened_of_plain hsrc)))) ?_
  rw [value_plain hsrc] at heq ⊢
  have hm : signif src (s.fpOperand src fs) ≠ 0 := fun h0 => hr (heq ▸ rat_eq_zero_iff.mpr h0)
  exact (if_neg hm).trans (round_exact hg (normal_of_plain hp hr) _ heq)

include h1

theorem fpToFloat_exact {form : BitVec 5 → Reg → Reg → Instr} (hcode : code ≠ 20 ∧ code ≠ 21)
    (hform : ∀ fmt, exec (form fmt fs fd) s = s.fpToFloat g src code fmt fs fd) :
    (s.holds src fs → src.plainNumber (s.fpOperand src fs) →
      (src.value (s.fpOperand src fs)).rat = (g.value p).rat →
      s.completes (form code fs fd) (s.WroteFp · g.wide fd p 0)) ∧
    (((s.fpr32 fs).toInt : ℚ) = (g.value p).rat → s.completes (form 20 fs fd) (s.WroteFp · g.wide fd p 0)) ∧
    (s.ops64Enabled = true → s.holds fmtD fs → ((s.fpr64 fs).toInt : ℚ) = (g.value p).rat →
      s.completes (form 21 fs fd) (s.WroteFp · g.wide fd p 0)) := by
  obtain ⟨h20, h21⟩ := hcode
  have hrun : ∀ fmt, (fmt = 21 → s.ops64Enabled = true) → exec (form fmt fs fd) s =
      if fmt = code then s.fpUnary src g.wide fs fd fun a => g.convert s.fpMode (s.qnan g) (src.value a)
      else if fmt = 20 then s.fpFromFixed g false fs fd
      else if fmt = 21 then s.fpFromFixed g true fs fd else s.fpUnimplemented := fun fmt h64 =>
    (hform fmt).trans (fpStart_usable h1 (fun h => h64 (eq_of_beq h)) _)
  refine ⟨fun hfs hsrc heq => ?_, fun heq => ?_, fun h64 hfs heq => ?_⟩
  · exact fpUnary_convert_exact hg hfd hp hr hfs hsrc heq ((hrun code fun h => absurd h h21).trans (if_pos rfl))
  · exact fpFromFixed_exact hg hfd hp hr (long := false) rfl rfl heq
      ((hrun 20 fun h => absurd h (by decide)).trans ((if_neg (Ne.symm h20)).trans (if_pos rfl)))
  · exact fpFromFixed_exact hg hfd hp hr (long := true) (wide_oddFpr (f := fmtD) hfs) rfl heq
      ((hrun 21 fun _ => h64).trans ((if_neg (Ne.symm h21)).trans ((if_neg (by decide)).trans (if_pos rfl))))

end

/-- Settles O52: the value to convert and the pattern stand for the same number, so the one rounds to the other. -/
theorem fpConvertToFloat : Obligations.FpConvertToFloat := by
  intro s fs fd p h1
  simp only [List.forall_mem_cons, List.not_mem_nil, false_implies, implies_true, and_true]
  exact ⟨fun hfd hp hr => fpToFloat_exact h1 (by decide) hfd hp hr (by decide) fun _ => rfl,
    fun hfd hp hr => fpToFloat_exact h1 (by decide) hfd hp hr (by decide) fun _ => rfl⟩

end Sys2Proof.Proofs
